-- ==== Sys2Proof/Word.lean ====
section
/-! DEFINITION. The words of the block: bytes, heights in millimetres, counters, timers, and the 7-byte frame
(00_scope.md R8, R11; 10_state.md R20; 30_encoding.md R90). -/
namespace Sys2Proof

/-- A byte, unsigned, 0 to 255 (R8). -/
abbrev Byte := BitVec 8

/-- A height: an unsigned number of millimetres (0.1 cm units) in `H_W` = 17 bits (R11, R28, D1). -/
abbrev Mm := BitVec 17

/-- A counter of `CNT_W` = 64 bits; its arithmetic wraps modulo 2^64 (R25, R26, R27, D8). -/
abbrev Count := BitVec 64

/-- The debounce timer's register, 10 bits (R33). -/
abbrev DebTicks := BitVec 10

/-- The idle timer's register, 14 bits (R36). -/
abbrev IdleTicks := BitVec 14

/-- A repeat count, 8 bits (R38). -/
abbrev Repeats := BitVec 8

/-- Seven bytes in wire order: B0 START, B1 `a`, B2 key byte, B3 and B4 payload, B5 checksum, B6 END (R90). -/
structure Frame where
  b0 : Byte
  b1 : Byte
  b2 : Byte
  b3 : Byte
  b4 : Byte
  b5 : Byte
  b6 : Byte
  deriving DecidableEq, Repr, Inhabited

/-- A frame as one 56-bit word, as opcode_table.json alone treats it (R9, R106). -/
abbrev FrameWord := BitVec 56

end Sys2Proof
end

