-- ==== Sys2Proof/Syntax.lean ====
section
/-! DEFINITION. Links, agents, messages, the nine frame kinds as `Instr`, the events of the block and its outputs
(00_scope.md R2, R12, R15, R16; 30_encoding.md R101, R102; 60_exceptions.md R271, R295). -/
namespace Sys2Proof

/-- The two serial links (R2). -/
inductive Link where
  | desk
  | panel
  deriving DecidableEq, Repr, Inhabited

/-- The five agents (R295). -/
inductive Agent where
  | deskReader
  | panelWriter
  | panelReader
  | debouncer
  | controlLoop
  deriving DecidableEq, Repr, Inhabited

/-- PanelToDeskMessage (R12). A height is held in a 17-bit register; R12's range 0..65535 is `P2D.inRange`. -/
inductive P2D where
  | up
  | down
  | noKey
  | presetOne (h : Mm)
  | presetTwo (h : Mm)
  | presetThree (h : Mm)
  | unknownP (a b c d k : Byte)
  deriving DecidableEq, Repr, Inhabited

/-- DeskToPanelMessage (R12). R12's range 650..66185 is `D2P.inRange`. -/
inductive D2P where
  | height (h : Mm)
  | unknownD (a b c d k : Byte)
  deriving DecidableEq, Repr, Inhabited

/-- The instructions of the block: the nine frame kinds of opcode_table.json, the two of the desk link (R101) and the
seven of the panel link (R102). -/
inductive Instr where
  | height (h : Mm)
  | unknownD (a b c d k : Byte)
  | up
  | down
  | noKey
  | presetOne (h : Mm)
  | presetTwo (h : Mm)
  | presetThree (h : Mm)
  | unknownP (a b c d k : Byte)
  deriving DecidableEq, Repr, Inhabited

/-- The nine frame kinds without their operands: what a row of opcode_table.json names (R106). -/
inductive FrameKind where
  | height
  | unknownD
  | up
  | down
  | noKey
  | presetOne
  | presetTwo
  | presetThree
  | unknownP
  deriving DecidableEq, Repr, Inhabited

/-- The kind of an instruction. -/
def Instr.kind : Instr → FrameKind
  | .height _ => .height
  | .unknownD _ _ _ _ _ => .unknownD
  | .up => .up
  | .down => .down
  | .noKey => .noKey
  | .presetOne _ => .presetOne
  | .presetTwo _ => .presetTwo
  | .presetThree _ => .presetThree
  | .unknownP _ _ _ _ _ => .unknownP

/-- The link on which a frame of this kind is received (R103). -/
def Instr.link : Instr → Link
  | .height _ => .desk
  | .unknownD _ _ _ _ _ => .desk
  | .up => .panel
  | .down => .panel
  | .noKey => .panel
  | .presetOne _ => .panel
  | .presetTwo _ => .panel
  | .presetThree _ => .panel
  | .unknownP _ _ _ _ _ => .panel

/-- The instruction whose reception delivers a panel-to-desk message. -/
def P2D.instr : P2D → Instr
  | .up => .up
  | .down => .down
  | .noKey => .noKey
  | .presetOne h => .presetOne h
  | .presetTwo h => .presetTwo h
  | .presetThree h => .presetThree h
  | .unknownP a b c d k => .unknownP a b c d k

/-- The instruction whose reception delivers a desk-to-panel message. -/
def D2P.instr : D2P → Instr
  | .height h => .height h
  | .unknownD a b c d k => .unknownD a b c d k

/-- One atomic step or one input event (R13, R15). `agentStep` is the turn of one agent: it takes the step its guards
and priorities give it (R292). `txError` is a transmission that fails in place of a `TX` (R284). The host's counter
pair is two atomic reads, `readFound` then `readDropped` (R73). -/
inductive Event where
  | reset
  | rxByte (L : Link) (b : Byte)
  | rxTimeout (L : Link)
  | rxError (L : Link)
  | txError (L : Link)
  | tick
  | moveToHeight (h : Nat)
  | shutdown
  | readCurrentHeight
  | readCurrentPanelKey
  | readFound (L : Link)
  | readDropped (L : Link)
  | agentStep (A : Agent)
  deriving DecidableEq, Repr, Inhabited

/-- The result of `MOVE_TO_HEIGHT`: the kind, the offending value and the constants it was checked against (R251). -/
inductive MoveResult where
  | ok
  | outOfRange (h lowest highest : Nat)
  | notMultiple (h granularity : Nat)
  deriving DecidableEq, Repr, Inhabited

/-- The numeric code of a `MOVE_TO_HEIGHT` result (R271). -/
def MoveResult.code : MoveResult → Nat
  | .ok => 0
  | .outOfRange _ _ _ => 1
  | .notMultiple _ _ => 2

/-- What leaves the block (R16). The fault outputs `run[A]`, `cause[A]` are read in the state (R282). -/
inductive Output where
  | tx (L : Link) (f : Frame)
  | moveResult (r : MoveResult)
  | currentHeight (h : Mm)
  | currentPanelKey (k : Option P2D)
  | frameCounts (L : Link) (found droppedBytes : Count)
  deriving DecidableEq, Repr, Inhabited

end Sys2Proof
end

