-- ==== Sys2Proof/Config.lean ====
section
/-! DEFINITION. The constants the source fixes (00_scope.md R6), the parameters it leaves open (R7), and the free values. -/
namespace Sys2Proof.Config

/-- `START`, frame byte 0 (R6, R91). -/
def startByte : Byte := 0x68

/-- `END`, frame byte 6 (R6, R91). -/
def endByte : Byte := 0x16

/-- `ADDR`, frame byte 1 as every encoder of a known kind writes it (R6, R92). -/
def addrByte : Byte := 0x01

/-- `FRAME_LEN` (R6). -/
def frameLen : Nat := 7

/-- `OFFSET_DESK`: the height offset of a `Height` frame, mm (R6, R97). -/
def offsetDesk : Nat := 650

/-- `OFFSET_PRESET`: the height offset of a preset frame, mm (R6, R97). -/
def offsetPreset : Nat := 0

/-- `WINDOW`: the arrival window, mm (R6, R223). -/
def window : Nat := 5

/-- `BURST`: the repeat count of the stop burst (R6, R224). -/
def burst : Repeats := 200

/-- `T_DEBOUNCE`, ms (R6, R206). -/
def tDebounce : DebTicks := 1000

/-- `T_IDLE`, ms (R6, R232). -/
def tIdle : IdleTicks := 10000

/-- `H_MIN`, the lowest legal target, mm (R6, R250). -/
def hMin : Nat := 650

/-- `H_MAX`, the highest legal target, mm (R6, R250). -/
def hMax : Nat := 1295

/-- `H_STEP`, the target granularity, mm (R6, R250). -/
def hStep : Nat := 5

/-- `H_RESET`: `current_height` after reset. Decided 0 by the spec, which also allows a free argument (R7, R47, D18).
DESIGN CHOICE: 0 is taken; unsafe, notes/assumptions/7.md. -/
def hReset : Mm := 0

/-- `RELAY_TIMES`: the repeat count of the desk-to-panel pass-through, decided 1 (R7, D16). DESIGN CHOICE: the decided
value is taken and not left free; unsafe, notes/assumptions/9.md. -/
def relayTimes : Repeats := 1

/-- `T_FRAME`, in ticks: OPEN in the spec (R7, D10). A constant with no body, so that no proof can use its value; it
may be 0. Safe, notes/assumptions/8.md. -/
opaque tFrame : Nat

/-- `T_READ`, in ticks: OPEN in the spec, and no rule of the block reads it (R7, D10): the read timeout is the event
`Event.rxTimeout`. notes/assumptions/8.md. -/
opaque tRead : Nat

/-- The event or agent turn that comes next when none is listed as pending, one free value for each number of earlier
draws. R13: "Any enabled step may be the next one"; which one, and what the environment does, the spec leaves open
(U12, U18). Safe, notes/assumptions/1.md. -/
opaque environment : Nat → Event

end Sys2Proof.Config
end

