-- ==== Sys2Proof/WellFormed.lean ====
section
/-! DEFINITION. Which messages an encoder accepts (40_codec.md R140) and which instructions a valid frame of their kind
can be: the height in the field's range, the key byte of an `Unknown` unassigned on its link, its stored checksum the
sum of its other bytes (R131, R157, R159). -/
namespace Sys2Proof

/-- The six key bytes that have a meaning on the panel link (R102). -/
def panelKeyKnown (key : Byte) : Bool :=
  key == 0x01 || key == 0x02 || key == 0x03 || key == 0x06 || key == 0x07 || key == 0x08

/-- The one key byte that has a meaning on the desk link (R101). -/
def deskKeyKnown (key : Byte) : Bool := key == 0x00

/-- A preset height fits the 16-bit field: 0..65535 mm (R140). -/
def presetInRange (h : Mm) : Bool := h.toNat ≤ 65535

/-- A `Height` fits the 16-bit field above its offset: 650..66185 mm (R140). -/
def heightInRange (h : Mm) : Bool := 650 ≤ h.toNat && h.toNat ≤ 66185

/-- The values of R12's type: what `enc_p2d` accepts (R140). -/
def P2D.inRange : P2D → Bool
  | .presetOne h => presetInRange h
  | .presetTwo h => presetInRange h
  | .presetThree h => presetInRange h
  | .up => true
  | .down => true
  | .noKey => true
  | .unknownP _ _ _ _ _ => true

/-- The values of R12's type: what `enc_d2p` accepts (R140). -/
def D2P.inRange : D2P → Bool
  | .height h => heightInRange h
  | .unknownD _ _ _ _ _ => true

/-- The stored checksum of an `Unknown` is the sum of its other four bytes modulo 256 (R130, R131). -/
def unknownSumOk (a b c d k : Byte) : Bool := k == a + b + c + d

/-- An instruction as a valid frame of its link can carry it. -/
def Instr.wellFormed : Instr → Bool
  | .height h => heightInRange h
  | .unknownD a b c d k => !deskKeyKnown b && unknownSumOk a b c d k
  | .up => true
  | .down => true
  | .noKey => true
  | .presetOne h => presetInRange h
  | .presetTwo h => presetInRange h
  | .presetThree h => presetInRange h
  | .unknownP a b c d k => !panelKeyKnown b && unknownSumOk a b c d k

end Sys2Proof
end

