-- ==== Sys2Proof/Decode.lean ====
section
/-! DEFINITION. The frame codec (40_codec.md): checksum, validity, the two total decoders, the decoder of a link that
rejects an invalid frame by name, the decoder of a 56-bit word of a link, the opcode table's rows and a decoder written
from them; and after them the encoders. -/
namespace Sys2Proof

/-- `checksum(b1, b2, b3, b4)`: the low 8 bits of the sum; the carry is recorded nowhere (R130). -/
def checksum (b1 b2 b3 b4 : Byte) : Byte := b1 + b2 + b3 + b4

/-- `frame_valid(f)`: START, END and the checksum, nothing else (R131). -/
def frameValid (f : Frame) : Bool :=
  f.b0 == Config.startByte && f.b6 == Config.endByte && f.b5 == checksum f.b1 f.b2 f.b3 f.b4

/-- The 16-bit height field `net = 256 * msb + lsb` plus its offset, in mm (R97, R164 (3)). -/
def heightOfField (offset : Nat) (msb lsb : Byte) : Mm :=
  BitVec.ofNat 17 (offset + 256 * msb.toNat + lsb.toNat)

/-- `dec_p2d`: total, selects by the key byte alone (R104, R150, R151 to R157). A preset field is little-endian (R99). -/
def decP2D (f : Frame) : P2D :=
  if f.b2 = 0x01 then .up
  else if f.b2 = 0x02 then .down
  else if f.b2 = 0x03 then .noKey
  else if f.b2 = 0x06 then .presetOne (heightOfField Config.offsetPreset f.b4 f.b3)
  else if f.b2 = 0x07 then .presetTwo (heightOfField Config.offsetPreset f.b4 f.b3)
  else if f.b2 = 0x08 then .presetThree (heightOfField Config.offsetPreset f.b4 f.b3)
  else .unknownP f.b1 f.b2 f.b3 f.b4 f.b5

/-- `dec_d2p`: total, selects by the key byte alone (R104, R150, R158, R159). The `Height` field is big-endian (R98). -/
def decD2P (f : Frame) : D2P :=
  if f.b2 = 0x00 then .height (heightOfField Config.offsetDesk f.b3 f.b4)
  else .unknownD f.b1 f.b2 f.b3 f.b4 f.b5

/-- Why bytes are not an instruction: they are no valid frame (R107). -/
inductive DecodeError where
  /-- not seven bytes (R90, R111) -/
  | wrongLength
  /-- B0 is not 0x68 (R91) -/
  | badStart
  /-- B6 is not 0x16 (R91) -/
  | badEnd
  /-- B5 is not the checksum of B1 to B4 (R95) -/
  | badChecksum
  deriving DecidableEq, Repr

/-- The instruction a frame carries on a link: the link selects the map, the frame does not (R103). -/
def instrOfFrame (L : Link) (f : Frame) : Instr :=
  match L with
  | .desk => (decD2P f).instr
  | .panel => (decP2D f).instr

/-- The decoder of a link: an invalid frame is never interpreted (R107, R179). -/
def decodeFrame (L : Link) (f : Frame) : Except DecodeError Instr :=
  if f.b0 ≠ Config.startByte then .error .badStart
  else if f.b6 ≠ Config.endByte then .error .badEnd
  else if f.b5 ≠ checksum f.b1 f.b2 f.b3 f.b4 then .error .badChecksum
  else .ok (instrOfFrame L f)

/-- Decode on any bytes; every frame is 7 bytes (R111). -/
def decodeBytes (L : Link) : List Byte → Except DecodeError Instr
  | [b0, b1, b2, b3, b4, b5, b6] => decodeFrame L ⟨b0, b1, b2, b3, b4, b5, b6⟩
  | _ => .error .wrongLength

/-! ### The words and the rows of opcode_table.json -/

/-- The frame of the 56-bit word `W = B0 ‖ … ‖ B6`: `B0` in bits 55:48, `B6` in bits 7:0 (R9). -/
def wordFrame (w : FrameWord) : Frame :=
  { b0 := w.extractLsb' 48 8, b1 := w.extractLsb' 40 8, b2 := w.extractLsb' 32 8, b3 := w.extractLsb' 24 8,
    b4 := w.extractLsb' 16 8, b5 := w.extractLsb' 8 8, b6 := w.extractLsb' 0 8 }

/-- The decoder of a 56-bit word received on link `L`: all seven bytes as the word has them, B5 tested (R103, R106,
R107). -/
def decodeWord (L : Link) (w : FrameWord) : Except DecodeError Instr := decodeFrame L (wordFrame w)

/-- A row of opcode_table.json (R106). -/
structure TableRow where
  kind : FrameKind
  link : Link
  pattern : FrameWord
  mask : FrameWord
  priority : Nat
  deriving DecidableEq, Repr

/-- The rows of opcode_table.json in its order; `pattern` is its column `match`. -/
def tableRows : List TableRow :=
  [⟨.height, .desk, 0x68000000000016, 0xFF00FF000000FF, 0⟩,
   ⟨.unknownD, .desk, 0x68000000000016, 0xFF0000000000FF, 1⟩,
   ⟨.up, .panel, 0x68000100000016, 0xFF00FF000000FF, 0⟩,
   ⟨.down, .panel, 0x68000200000016, 0xFF00FF000000FF, 0⟩,
   ⟨.noKey, .panel, 0x68000300000016, 0xFF00FF000000FF, 0⟩,
   ⟨.presetOne, .panel, 0x68000600000016, 0xFF00FF000000FF, 0⟩,
   ⟨.presetTwo, .panel, 0x68000700000016, 0xFF00FF000000FF, 0⟩,
   ⟨.presetThree, .panel, 0x68000800000016, 0xFF00FF000000FF, 0⟩,
   ⟨.unknownP, .panel, 0x68000000000016, 0xFF0000000000FF, 1⟩]

/-- `(W AND mask) = match` (R106). -/
def TableRow.covers (r : TableRow) (w : FrameWord) : Bool := w &&& r.mask == r.pattern

/-- The row of a word on link `L`: the link first, then a known kind's row, and an `Unknown`'s only when no known row of the
same link matches (R103, R106). -/
def selectRow (L : Link) (w : FrameWord) : Option TableRow :=
  let rows := tableRows.filter (fun r => r.link == L && r.covers w)
  match rows.find? (fun r => r.priority == 0) with
  | some r => some r
  | none => rows.find? (fun r => r.priority == 1)

/-- The `constraint` column, which no mask expresses: `B5 = (B1+B2+B3+B4) mod 256` (R106). -/
def tableConstraint (f : Frame) : Bool := f.b5 == checksum f.b1 f.b2 f.b3 f.b4

/-- The operands a row's columns name, read from a frame of its kind (opcode_table.json, `source_fields`). -/
def FrameKind.read (k : FrameKind) (f : Frame) : Instr :=
  match k with
  | .height => .height (heightOfField Config.offsetDesk f.b3 f.b4)
  | .unknownD => .unknownD f.b1 f.b2 f.b3 f.b4 f.b5
  | .up => .up
  | .down => .down
  | .noKey => .noKey
  | .presetOne => .presetOne (heightOfField Config.offsetPreset f.b4 f.b3)
  | .presetTwo => .presetTwo (heightOfField Config.offsetPreset f.b4 f.b3)
  | .presetThree => .presetThree (heightOfField Config.offsetPreset f.b4 f.b3)
  | .unknownP => .unknownP f.b1 f.b2 f.b3 f.b4 f.b5

/-- A decoder written from the table (R106): the row of the link, its constraint, its operands. Laws/Table.lean proves that
it reads what `decodeWord` reads. -/
def decodeByTable (L : Link) (w : FrameWord) : Option Instr :=
  match selectRow L w with
  | some r => if tableConstraint (wordFrame w) then some (r.kind.read (wordFrame w)) else none
  | none => none

/-! ### The host's hook: a table word without a link -/

/-- The frame the hook takes a bare table word for. A row's `match` leaves B5 free although its `constraint` fixes it, so
here, and nowhere else, B5 is filled in from the constraint (R106). DESIGN CHOICE, notes/assumptions/3.md. -/
def tableFrame (w : Nat) : Frame :=
  let f := wordFrame (BitVec.ofNat 56 w)
  { f with b5 := checksum f.b1 f.b2 f.b3 f.b4 }

/-- The link whose rows the hook reads a bare word with, since it is given none (R103): the rows of known kinds come
first (`priority` 0, R106), so a panel key byte selects the panel link and key byte 0 the desk link; a word that only
the two `Unknown` rows match is read with the first of them in the table, the desk link's.
DESIGN CHOICE, notes/assumptions/3.md. -/
def tableLink (f : Frame) : Link := if panelKeyKnown f.b2 then .panel else .desk

/-- The host's hook: the instruction the decoder reads from a bare word of opcode_table.json, its link chosen by `tableLink`
and its B5 filled in by `tableFrame`. `decodeWord` is the decoder that is given the link and tests B5. -/
def decodeTableWord (nbits w : Nat) : Option Instr :=
  let f := tableFrame (w % 2 ^ nbits)
  match decodeFrame (tableLink f) f with
  | .ok i => some i
  | .error _ => none

/-! ### Encoders -/

/-- A frame of a known kind: START, 0x01, key, payload, checksum, END (R92, R140). -/
def knownFrame (key b3 b4 : Byte) : Frame :=
  { b0 := Config.startByte, b1 := Config.addrByte, b2 := key, b3 := b3, b4 := b4,
    b5 := checksum Config.addrByte key b3 b4, b6 := Config.endByte }

/-- The five stored bytes of an `Unknown` between START and END, verbatim, no recomputed checksum (R147, R149). -/
def verbatimFrame (a b c d k : Byte) : Frame :=
  { b0 := Config.startByte, b1 := a, b2 := b, b3 := c, b4 := d, b5 := k, b6 := Config.endByte }

/-- `msb = net div 256` (R65, R97). -/
def fieldMsb (net : Nat) : Byte := BitVec.ofNat 8 (net / 256)

/-- `lsb = net mod 256` (R65, R97). -/
def fieldLsb (net : Nat) : Byte := BitVec.ofNat 8 (net % 256)

/-- A preset frame, little-endian payload, or no frame when the field cannot hold the height (R99, R140, R144). -/
def encPreset (key : Byte) (h : Mm) : Option Frame :=
  if presetInRange h then
    let net := h.toNat - Config.offsetPreset
    some (knownFrame key (fieldLsb net) (fieldMsb net))
  else none

/-- A `Height` frame, big-endian payload, or no frame when the field cannot hold the height (R98, R140, R148). -/
def encHeight (h : Mm) : Option Frame :=
  if heightInRange h then
    let net := h.toNat - Config.offsetDesk
    some (knownFrame 0x00 (fieldMsb net) (fieldLsb net))
  else none

/-- `enc_p2d` (R141 to R147); `none` is `enc_range_error` (R140). -/
def encP2D : P2D → Option Frame
  | .up => some (knownFrame 0x01 0x00 0x00)
  | .down => some (knownFrame 0x02 0x00 0x00)
  | .noKey => some (knownFrame 0x03 0x00 0x00)
  | .presetOne h => encPreset 0x06 h
  | .presetTwo h => encPreset 0x07 h
  | .presetThree h => encPreset 0x08 h
  | .unknownP a b c d k => some (verbatimFrame a b c d k)

/-- `enc_d2p` (R148, R149); `none` is `enc_range_error` (R140). -/
def encD2P : D2P → Option Frame
  | .height h => encHeight h
  | .unknownD a b c d k => some (verbatimFrame a b c d k)

/-- The frame of an instruction, by the encoder of its direction. -/
def encode : Instr → Option Frame
  | .height h => encD2P (.height h)
  | .unknownD a b c d k => encD2P (.unknownD a b c d k)
  | .up => encP2D .up
  | .down => encP2D .down
  | .noKey => encP2D .noKey
  | .presetOne h => encP2D (.presetOne h)
  | .presetTwo h => encP2D (.presetTwo h)
  | .presetThree h => encP2D (.presetThree h)
  | .unknownP a b c d k => encP2D (.unknownP a b c d k)

/-- The 56-bit word of a frame, `B0` on top (R9). -/
def frameWord (f : Frame) : FrameWord := f.b0 ++ f.b1 ++ f.b2 ++ f.b3 ++ f.b4 ++ f.b5 ++ f.b6

/-- The bytes of a frame in wire order, B0 first (R64). -/
def Frame.toList (f : Frame) : List Byte := [f.b0, f.b1, f.b2, f.b3, f.b4, f.b5, f.b6]

end Sys2Proof
end

