-- ==== Sys2Proof/Machine/State.lean ====
section
/-! DEFINITION. The state of the block as plain data: every register of 10_state.md R20 with its reset value (R47), and
beside them the environment's side (the events still to come and what has left the block), which R20 calls inputs. -/
namespace Sys2Proof.Machine

/-- The synchronizer and link-reader registers of one link (R21 to R27). -/
structure LinkState where
  /-- `L.buf[0..6]` (R22); byte 6 is never written (R174). -/
  buf : Frame
  /-- `L.pos`, the accumulation position, 0 to 6 (R24): 0 is Seeking, 1 to 6 is Filling (R23). -/
  pos : Fin 7
  /-- `L.drop_acc` (R25). -/
  dropAcc : Count
  /-- `L.frame_count` (R26). -/
  frameCount : Count
  /-- `L.dropped_byte_count` (R27). -/
  droppedByteCount : Count
  deriving DecidableEq, Repr, Inhabited

/-- `run[A]` (R43). -/
inductive RunState where
  | running
  | halted
  | faulted
  deriving DecidableEq, Repr, Inhabited

/-- `cause[A]` (R43, R271). -/
inductive Cause where
  | noFault
  | portRead
  | portWrite
  | channelSend
  | channelReceive
  deriving DecidableEq, Repr, Inhabited

/-- The numeric cause code (R271). -/
def Cause.code : Cause → Nat
  | .noFault => 0
  | .portRead => 1
  | .portWrite => 2
  | .channelSend => 3
  | .channelReceive => 4

/-- `cl_state` (R40). -/
inductive ClState where
  | waiting
  | writing
  deriving DecidableEq, Repr, Inhabited

/-- `pw_state` (R42). -/
inductive PwState where
  | idle
  | writing
  deriving DecidableEq, Repr, Inhabited

/-- One value for each of the five agents (R43, R295). -/
structure PerAgent (α : Type) where
  deskReader : α
  panelWriter : α
  panelReader : α
  debouncer : α
  controlLoop : α
  deriving DecidableEq, Repr, Inhabited

/-- The value of agent `A`. -/
def PerAgent.get {α : Type} (p : PerAgent α) : Agent → α
  | .deskReader => p.deskReader
  | .panelWriter => p.panelWriter
  | .panelReader => p.panelReader
  | .debouncer => p.debouncer
  | .controlLoop => p.controlLoop

/-- `p` with `v` for agent `A`. -/
def PerAgent.set {α : Type} (p : PerAgent α) (A : Agent) (v : α) : PerAgent α :=
  match A with
  | .deskReader => { p with deskReader := v }
  | .panelWriter => { p with panelWriter := v }
  | .panelReader => { p with panelReader := v }
  | .debouncer => { p with debouncer := v }
  | .controlLoop => { p with controlLoop := v }

/-- The MODEL's own state, not the spec's: the environment's side. Inputs are events (R15) and outputs leave the block
(R16); notes/assumptions/1.md, 14.md, 15.md. -/
structure Environment where
  /-- The events and agent turns still to come, the next one first (R13). -/
  pending : List Event
  /-- How many events have been taken from the free value `Config.environment`. -/
  drawn : Nat
  /-- What has left the block (R16), the newest first. -/
  outputs : List Output
  /-- `found` of a `desk_frame_counts()` call whose second read is still to come (R73, R254). -/
  deskFound : Option Count
  /-- `found` of a `panel_frame_counts()` call whose second read is still to come (R73, R255). -/
  panelFound : Option Count
  deriving DecidableEq, Repr, Inhabited

/-- The complete state (R20). -/
structure State where
  /-- The desk link's synchronizer and reader (R21). -/
  desk : LinkState
  /-- The panel link's synchronizer and reader (R21). -/
  panel : LinkState
  /-- `current_height` (R28). -/
  currentHeight : Mm
  /-- `target_height`, its valid flag and value (R29). -/
  targetHeight : Option Mm
  /-- `current_panel_key`, its valid flag and message (R30). -/
  currentPanelKey : Option P2D
  /-- `wake`, the pending notification (R31). -/
  wake : Bool
  /-- `shutdown`, sticky (R32). -/
  shutdown : Bool
  /-- `deb_timer` (R33). -/
  debTimer : DebTicks
  /-- `panel_q` (R34), the head first. -/
  panelQ : List P2D
  /-- `d2p_q` (R35), the head first. -/
  d2pQ : List D2P
  /-- `idle_timer` (R36). -/
  idleTimer : IdleTicks
  /-- `tx_frame` (R37). -/
  txFrame : Frame
  /-- `tx_remaining` (R38). -/
  txRemaining : Repeats
  /-- `tx_clears` (R39). -/
  txClears : Bool
  /-- `tx_resignal` (R39). -/
  txResignal : Bool
  /-- `cl_state` (R40). -/
  clState : ClState
  /-- `tx_gap` (R41). -/
  txGap : Nat
  /-- `pw_state` (R42). -/
  pwState : PwState
  /-- `pw_frame` (R42). -/
  pwFrame : Frame
  /-- `pw_remaining` (R42). -/
  pwRemaining : Repeats
  /-- `pw_gap` (R42). -/
  pwGap : Nat
  /-- `run[A]` (R43). -/
  run : PerAgent RunState
  /-- `cause[A]` (R43). -/
  cause : PerAgent Cause
  /-- The environment's side; no register of the block. -/
  env : Environment
  deriving DecidableEq, Repr, Inhabited

/-- Nothing stops the block as a whole: FrameCorruption and ValidationError are ordinary results, PortIOError and
ChannelError stop one agent and are next states (R270, R280, R282). So there is no fault to raise, and the type has no
constructor. -/
inductive Fault where
  deriving DecidableEq, Repr

/-- Why the model gives no next state. -/
inductive Refusal where
  /-- Raised by `exec`'s arm of an instruction without a meaning; no arm is left that raises it. Safe. -/
  | notModelled (mnemonic : String)
  /-- `enc_range_error` (R140, D2, U3): an encoder was offered a height its field cannot hold; "a model refuses it".
  Raised by the panel writer's start and the control loop's evaluation, and by no state that meets `State.Inv`. Safe. -/
  | encRangeError
  deriving DecidableEq, Repr

/-- Seven zero bytes: the DESIGN CHOICE for the frames R47 leaves unspecified; notes/assumptions/4.md, 5.md. -/
def zeroFrame : Frame := { b0 := 0, b1 := 0, b2 := 0, b3 := 0, b4 := 0, b5 := 0, b6 := 0 }

/-- A link's registers after reset (R47). -/
def LinkState.reset : LinkState :=
  { buf := zeroFrame, pos := 0, dropAcc := 0, frameCount := 0, droppedByteCount := 0 }

/-- The same value for all five agents. -/
def PerAgent.all {α : Type} (v : α) : PerAgent α :=
  { deskReader := v, panelWriter := v, panelReader := v, debouncer := v, controlLoop := v }

/-- No event listed, none drawn, nothing sent; notes/assumptions/1.md. -/
def Environment.reset : Environment :=
  { pending := [], drawn := 0, outputs := [], deskFound := none, panelFound := none }

/-- The machine right after reset (R47, R310). -/
def State.reset : State :=
  { desk := LinkState.reset
    panel := LinkState.reset
    currentHeight := Config.hReset
    targetHeight := none
    currentPanelKey := none
    wake := false
    shutdown := false
    debTimer := 0
    panelQ := []
    d2pQ := []
    idleTimer := 0
    txFrame := zeroFrame
    txRemaining := 0
    txClears := false
    txResignal := false
    clState := .waiting
    txGap := 0
    pwState := .idle
    pwFrame := zeroFrame
    pwRemaining := 0
    pwGap := 0
    run := PerAgent.all .running
    cause := PerAgent.all .noFault
    env := Environment.reset }

end Sys2Proof.Machine
end

