-- ==== Sys2Proof/Machine/Flags.lean ====
section
/-! DEFINITION. Every test the steps compute a flag or a choice from: the window relations (43_control_loop.md R223), the
movement test of `tx_resignal` (R233), the validation tests of `MOVE_TO_HEIGHT` (R250), the two expiries (R206, R232). The
block has no arithmetic condition codes (10_state.md R44). -/
namespace Sys2Proof.Machine

/-- `below(cur, t)`: `cur + 5 < t` over the naturals (R223). -/
def below (cur t : Mm) : Bool := cur.toNat + Config.window < t.toNat

/-- `above(cur, t)`: `cur > t + 5` over the naturals (R223). -/
def above (cur t : Mm) : Bool := t.toNat + Config.window < cur.toNat

/-- `within(cur, t)`: `t - 5 ≤ cur ≤ t + 5`, both ends inside, in the form that needs no negative number (R223). -/
def within (cur t : Mm) : Bool :=
  t.toNat ≤ cur.toNat + Config.window && cur.toNat ≤ t.toNat + Config.window

/-- Whether a command is a movement step, `Up` or `Down`: what `tx_resignal` records (R39, R233). -/
def isMovement : P2D → Bool
  | .up => true
  | .down => true
  | .noKey => false
  | .presetOne _ => false
  | .presetTwo _ => false
  | .presetThree _ => false
  | .unknownP _ _ _ _ _ => false

/-- `h < 650 or h > 1295` (R250). -/
def outOfRange (h : Nat) : Bool := h < Config.hMin || Config.hMax < h

/-- `h mod 5 ≠ 0` (R250). -/
def notMultiple (h : Nat) : Bool := h % Config.hStep != 0

/-- `deb_timer ≥ 1000` (R206). -/
def State.debounceExpired (s : State) : Bool := Config.tDebounce ≤ s.debTimer

/-- `idle_timer ≥ 10000` (R232). -/
def State.idleExpired (s : State) : Bool := Config.tIdle ≤ s.idleTimer

end Sys2Proof.Machine
end

