-- ==== Sys2Proof/Machine/Operands.lean ====
section
/-! DEFINITION. How a link's registers and its frame buffer are read and written: the block's only indexed storage, the
only addressing mode being the current position (20_memory.md R60; 41_synchronizer.md R171, R173, R174). -/
namespace Sys2Proof.Machine

/-- The registers of link `L` (R21). -/
def State.link (L : Link) (s : State) : LinkState :=
  match L with
  | .desk => s.desk
  | .panel => s.panel

/-- `s` with the registers of link `L` replaced (R21). -/
def State.setLink (L : Link) (l : LinkState) (s : State) : State :=
  match L with
  | .desk => { s with desk := l }
  | .panel => { s with panel := l }

/-- `L.buf[i]`, the block's only MemRead (R10, R60). The index space is 0..6; no rule reads outside it. -/
def bufRead (f : Frame) (i : Fin 7) : Byte :=
  match i with
  | 0 => f.b0
  | 1 => f.b1
  | 2 => f.b2
  | 3 => f.b3
  | 4 => f.b4
  | 5 => f.b5
  | 6 => f.b6

/-- `L.buf[i] <- b`, the block's only MemWrite (R10, R60). -/
def bufWrite (f : Frame) (i : Fin 7) (b : Byte) : Frame :=
  match i with
  | 0 => { f with b0 := b }
  | 1 => { f with b1 := b }
  | 2 => { f with b2 := b }
  | 3 => { f with b3 := b }
  | 4 => { f with b4 := b }
  | 5 => { f with b5 := b }
  | 6 => { f with b6 := b }

/-- The candidate the arriving 7th byte completes: `[L.buf[0], …, L.buf[5], b]` (R174). -/
def candidate (l : LinkState) (b : Byte) : Frame := { l.buf with b6 := b }

/-- The agent that reads link `L` (R75, R295). -/
def readerOf (L : Link) : Agent :=
  match L with
  | .desk => .deskReader
  | .panel => .panelReader

/-- The agent that writes link `L`: the desk link is written only by the control loop, the panel link only by the panel
writer (R75, R284). -/
def writerOf (L : Link) : Agent :=
  match L with
  | .desk => .controlLoop
  | .panel => .panelWriter

end Sys2Proof.Machine
end

