-- ==== Sys2Proof/Machine/Ops.lean ====
section
/-! DEFINITION. The named operations every step is built from: FIFOs, outputs, entering the Faulted state and the return
from it (60_exceptions.md R282, R281, R310), the report of dropped bytes, the emission of a frame and its delivery. -/
namespace Sys2Proof.Machine

/-! ### FIFOs (20_memory.md R66) -/

/-- `push(q, m)`: appends at the tail. -/
def push {α : Type} (q : List α) (m : α) : List α := q ++ [m]

/-- `empty(q)`. -/
def emptyQ {α : Type} (q : List α) : Bool := q.isEmpty

/-! ### Agents and outputs -/

/-- `run[A] = Running`. -/
def State.isRunning (A : Agent) (s : State) : Bool := s.run.get A == .running

/-- `run[A] <- Halted`; no other register changes (R246). -/
def State.halt (A : Agent) (s : State) : State := { s with run := s.run.set A .halted }

/-- `raise <Fault>(A)`: `run[A] <- Faulted ; cause[A] <- code`, nothing else (R282). The block's one way of taking an
exception that stops an agent. -/
def State.raise (A : Agent) (c : Cause) (s : State) : State :=
  { s with run := s.run.set A .faulted, cause := s.cause.set A c }

/-- `RESET`, the only return from Halted and Faulted (R281, R310): every register takes its reset value. The
environment's side is no register and is kept (notes/assumptions/14.md). -/
def State.resetBlock (s : State) : State := { State.reset with env := s.env }

/-- One output leaves the block (R16). -/
def State.emit (o : Output) (s : State) : State := { s with env := { s.env with outputs := o :: s.env.outputs } }

/-! ### Reports of a synchronizer -/

/-- `L.drop_acc` is reported and cleared, and the report is added to `L.dropped_byte_count` (R174, R176, R180, R181). -/
def LinkState.report (l : LinkState) : LinkState :=
  { l with droppedByteCount := l.droppedByteCount + l.dropAcc, dropAcc := 0 }

/-- `emit_rx(L, f, n)` for the counters and the position: back to Seeking, one frame more, the drops before it reported
(R174, R180). -/
def LinkState.emitted (l : LinkState) : LinkState :=
  { l.report with frameCount := l.frameCount + 1, pos := 0 }

/-- `emit_rx` on link `L`. -/
def State.emitRx (L : Link) (s : State) : State := s.setLink L (s.link L).emitted

/-! ### Delivery of a decoded message -/

/-- `push(d2p_q, m)` by the desk link reader; ChannelError on the send side when the panel writer is not Running (R200,
R285). -/
def State.pushD2P (m : D2P) (s : State) : State :=
  if s.isRunning .panelWriter then { s with d2pQ := push s.d2pQ m } else s.raise .deskReader .channelSend

/-- The desk relay: a `Height` overwrites `current_height`; every message is forwarded (R200). `wake` is not set (R231). -/
def State.relay (m : D2P) (s : State) : State :=
  match m with
  | .height h => State.pushD2P m { s with currentHeight := h }
  | .unknownD _ _ _ _ _ => State.pushD2P m s

/-- `push(panel_q, m)` by the panel link reader; ChannelError on the send side when the debouncer is not Running (R180,
R285). -/
def State.pushP2D (m : P2D) (s : State) : State :=
  if s.isRunning .debouncer then { s with panelQ := push s.panelQ m } else s.raise .panelReader .channelSend

/-- The desk link emits a frame that decodes to `m` (R174, R180, R200), if its reader is Running; otherwise the byte that
would have completed it is ignored (R170, R283). -/
def receiveD2P (m : D2P) (s : State) : Host.Outcome State Fault Refusal :=
  if s.isRunning .deskReader then .next ((s.emitRx .desk).relay m) else .next s

/-- The panel link emits a frame that decodes to `m` (R174, R180), if its reader is Running; otherwise the byte that
would have completed it is ignored (R170, R283). -/
def receiveP2D (m : P2D) (s : State) : Host.Outcome State Fault Refusal :=
  if s.isRunning .panelReader then .next ((s.emitRx .panel).pushP2D m) else .next s

end Sys2Proof.Machine
end

