-- ==== Sys2Proof/Machine/ControlLoop.lean ====
section
/-! DEFINITION. The control loop: the pure decision `next_command` and the driving loop (43_control_loop.md R220 to R247). -/
namespace Sys2Proof.Machine

/-- What `next_command` returns when it returns `Some` (R220). -/
structure Command where
  message : P2D
  repeatCount : Repeats
  clearsTarget : Bool
  deriving DecidableEq, Repr

/-- Cases 4 to 6: pursuit of a target `t` (R224, R225, R226). -/
def pursue (t cur : Mm) : Command :=
  if within cur t then { message := .noKey, repeatCount := Config.burst, clearsTarget := true }
  else if below cur t then { message := .up, repeatCount := 1, clearsTarget := false }
  else { message := .down, repeatCount := 1, clearsTarget := false }

/-- `next_command(panel_key, target, cur)`, pure and total, the cases in the source's order (R220, R221, R222, R227, R224
to R226). `k ≠ NoKey` is a test of the variant (R221). -/
def nextCommand (panelKey : Option P2D) (target : Option Mm) (cur : Mm) : Option Command :=
  match panelKey, target with
  | some .noKey, none => some { message := .noKey, repeatCount := 1, clearsTarget := false }
  | some .noKey, some t => some (pursue t cur)
  | some k, _ => some { message := k, repeatCount := 1, clearsTarget := false }
  | none, none => none
  | none, some t => some (pursue t cur)

/-- R235's guard: a repetition is due. -/
def State.deskTxDue (s : State) : Bool :=
  s.isRunning .controlLoop && !s.shutdown && s.clState == .writing && s.txRemaining != 0 && s.txGap == 0

/-- Evaluate: one snapshot, `next_command`, and the write it starts, encoded once (R233, R234). -/
def evaluate (s : State) : Host.Outcome State Fault Refusal :=
  match nextCommand s.currentPanelKey s.targetHeight s.currentHeight with
  | none => .next { s with idleTimer := 0 }
  | some c =>
    match encP2D c.message with
    | none => .refused .encRangeError
    | some f =>
      .next { s with
        idleTimer := 0
        txFrame := f
        txRemaining := c.repeatCount
        txClears := c.clearsTarget
        txResignal := isMovement c.message
        txGap := 0
        clState := .writing }

/-- Transmit: `TX(desk, tx_frame)`, one repetition less, the gap loaded (R235). -/
def deskTransmit (s : State) : State :=
  State.emit (.tx .desk s.txFrame) { s with txRemaining := s.txRemaining - 1, txGap := Config.tFrame }

/-- Complete: clear, then re-signal on the target as just updated, then wait again (R240, D14). -/
def writeComplete (s : State) : State :=
  let target := if s.txClears then none else s.targetHeight
  { s with
    targetHeight := target
    wake := s.wake || s.txClears || (s.txResignal && target.isSome)
    clState := .waiting
    idleTimer := 0 }

/-- The control loop's step. Waiting: shutdown, then the notification, then the idle timeout (R232). Writing: shutdown
(R247), then the repetitions with their spacing (R235), then completion (R240). -/
def controlLoopStep (s : State) : Host.Outcome State Fault Refusal :=
  if !s.isRunning .controlLoop then .next s
  else if s.shutdown then .next (s.halt .controlLoop)
  else
    match s.clState with
    | .waiting =>
      if s.wake then evaluate { s with wake := false }
      else if s.idleExpired then evaluate s
      else .next s
    | .writing =>
      if s.txGap ≠ 0 then .next s
      else if s.txRemaining ≠ 0 then .next (deskTransmit s)
      else .next (writeComplete s)

end Sys2Proof.Machine
end

