-- ==== Sys2Proof/Machine/HostOps.lean ====
section
/-! DEFINITION. The host's operations and the two events of time and reset: `MOVE_TO_HEIGHT`, the status reads, `SHUTDOWN`
(43_control_loop.md R246, R250 to R255), `TICK` (60_exceptions.md R300). -/
namespace Sys2Proof.Machine

/-- The two validations of `MOVE_TO_HEIGHT`, the range first (R250, R251). -/
def validateMove (h : Nat) : MoveResult :=
  if outOfRange h then .outOfRange h Config.hMin Config.hMax
  else if notMultiple h then .notMultiple h Config.hStep
  else .ok

/-- `MOVE_TO_HEIGHT(h)`: on `Ok` the target is written and the notification fired, on an error nothing changes; the result
is returned in the same step (R250, R273). -/
def moveToHeight (h : Nat) (s : State) : State :=
  match validateMove h with
  | .ok => State.emit (.moveResult .ok) { s with targetHeight := some (BitVec.ofNat 17 h), wake := true }
  | .outOfRange v lo hi => State.emit (.moveResult (.outOfRange v lo hi)) s
  | .notMultiple v g => State.emit (.moveResult (.notMultiple v g)) s

/-- `SHUTDOWN`: `shutdown <- 1` (R246). -/
def shutdownBlock (s : State) : State := { s with shutdown := true }

/-- `current_height()` (R252). -/
def readCurrentHeight (s : State) : State := s.emit (.currentHeight s.currentHeight)

/-- `current_panel_key()` (R253). -/
def readCurrentPanelKey (s : State) : State := s.emit (.currentPanelKey s.currentPanelKey)

/-- The first atomic read of a counter pair: `found` (R73, R254, R255). DESIGN CHOICE (notes/assumptions/15.md): a link keeps
one count. The spec says nothing of overlapping host calls; here a second `frame_counts` call on a link that begins before the
first has read its dropped count takes its place: the first call's `found` is lost and one result is returned for the two. -/
def readFound (L : Link) (s : State) : State :=
  match L with
  | .desk => { s with env := { s.env with deskFound := some s.desk.frameCount } }
  | .panel => { s with env := { s.env with panelFound := some s.panel.frameCount } }

/-- The second atomic read of a counter pair, which returns the pair; without a first read there is no call to return
from (R73, R254, R255; notes/assumptions/15.md). -/
def readDropped (L : Link) (s : State) : State :=
  match L with
  | .desk =>
    match s.env.deskFound with
    | some n => State.emit (.frameCounts .desk n s.desk.droppedByteCount) { s with env := { s.env with deskFound := none } }
    | none => s
  | .panel =>
    match s.env.panelFound with
    | some n => State.emit (.frameCounts .panel n s.panel.droppedByteCount) { s with env := { s.env with panelFound := none } }
    | none => s

/-- `TICK`: the four timers, whatever the run state of their agents, and nothing else (R300). -/
def tick (s : State) : State :=
  { s with
    debTimer := if s.debTimer < Config.tDebounce then s.debTimer + 1 else s.debTimer
    idleTimer := if s.idleTimer < Config.tIdle then s.idleTimer + 1 else s.idleTimer
    txGap := s.txGap - 1
    pwGap := s.pwGap - 1 }

end Sys2Proof.Machine
end

