-- ==== Sys2Proof/Machine/Relay.lean ====
section
/-! DEFINITION. The panel writer and the panel-key debouncer (42_relay_debouncer.md R201 to R206; 60_exceptions.md R285,
R292). -/
namespace Sys2Proof.Machine

/-! ### Panel writer -/

/-- R202's guard: a repetition is due. -/
def State.panelTxDue (s : State) : Bool :=
  s.isRunning .panelWriter && !s.shutdown && s.pwState == .writing && s.pwRemaining != 0 && s.pwGap == 0

/-- Start: `m <- pop(d2p_q)`, encoded once; `enc_range_error` when the height does not fit (R140, R201). -/
def panelStart (m : D2P) (rest : List D2P) (s : State) : Host.Outcome State Fault Refusal :=
  match encD2P m with
  | some f => .next { s with d2pQ := rest, pwFrame := f, pwRemaining := Config.relayTimes, pwState := .writing }
  | none => .refused .encRangeError

/-- Transmit: `TX(panel, pw_frame)`, one repetition less, the gap loaded (R202). -/
def panelTransmit (s : State) : State :=
  State.emit (.tx .panel s.pwFrame) { s with pwRemaining := s.pwRemaining - 1, pwGap := Config.tFrame }

/-- Complete: `pw_state <- Idle` (R203). -/
def panelComplete (s : State) : State := { s with pwState := .idle }

/-- The panel writer's step, by R292's priority: shutdown, its writing steps, start, the receive-side ChannelError (R285). -/
def panelWriterStep (s : State) : Host.Outcome State Fault Refusal :=
  if !s.isRunning .panelWriter then .next s
  else if s.shutdown then .next (s.halt .panelWriter)
  else
    match s.pwState with
    | .writing =>
      if s.pwGap ≠ 0 then .next s
      else if s.pwRemaining ≠ 0 then .next (panelTransmit s)
      else .next (panelComplete s)
    | .idle =>
      match s.d2pQ with
      | m :: rest => panelStart m rest s
      | [] => if s.isRunning .deskReader then .next s else .next (s.raise .panelWriter .channelReceive)

/-! ### Debouncer -/

/-- Take a message: the key is rewritten, the timer restarted, the notification fired, also when the value is the one
already held (R205, R231). -/
def debounceTake (m : P2D) (rest : List P2D) (s : State) : State :=
  { s with panelQ := rest, currentPanelKey := some m, debTimer := 0, wake := true }

/-- Expire: the key is forced to `None`, the timer re-armed, the notification fired (R206). -/
def debounceExpire (s : State) : State := { s with currentPanelKey := none, debTimer := 0, wake := true }

/-- The debouncer's step, by R292's priority: shutdown, a waiting message, the receive-side ChannelError, expiry. -/
def debouncerStep (s : State) : State :=
  if !s.isRunning .debouncer then s
  else if s.shutdown then s.halt .debouncer
  else
    match s.panelQ with
    | m :: rest => debounceTake m rest s
    | [] =>
      if !s.isRunning .panelReader then s.raise .debouncer .channelReceive
      else if s.debounceExpired then debounceExpire s
      else s

end Sys2Proof.Machine
end

