-- ==== Sys2Proof/Machine/DeskFrames.lean ====
section
/-! DEFINITION. The meanings of the two desk-to-panel frame kinds: what their reception on the desk link does
(41_synchronizer.md R174, R180; 42_relay_debouncer.md R200). -/
namespace Sys2Proof.Machine

/-- `HEIGHT`: `current_height <- h`, and the message is relayed to the panel (R158, R180, R200). -/
def execHeight (h : Mm) (s : State) : Host.Outcome State Fault Refusal := receiveD2P (.height h) s

/-- `UNKNOWN_D`: relayed to the panel verbatim; `current_height` is unchanged (R159, R180, R200). -/
def execUnknownD (a b c d k : Byte) (s : State) : Host.Outcome State Fault Refusal :=
  receiveD2P (.unknownD a b c d k) s

end Sys2Proof.Machine
end

