-- ==== Sys2Proof/Machine/PanelFrames.lean ====
section
/-! DEFINITION. The meanings of the seven panel-to-desk frame kinds: what their reception on the panel link does
(41_synchronizer.md R174, R180). The debouncer takes the message from `panel_q` in a step of its own (R205, R207). -/
namespace Sys2Proof.Machine

/-- `UP` (R151, R180). -/
def execUp (s : State) : Host.Outcome State Fault Refusal := receiveP2D .up s

/-- `DOWN` (R152, R180). -/
def execDown (s : State) : Host.Outcome State Fault Refusal := receiveP2D .down s

/-- `NOKEY` (R153, R180). -/
def execNoKey (s : State) : Host.Outcome State Fault Refusal := receiveP2D .noKey s

/-- `PRESET1` (R154, R180). -/
def execPresetOne (h : Mm) (s : State) : Host.Outcome State Fault Refusal := receiveP2D (.presetOne h) s

/-- `PRESET2` (R155, R180). -/
def execPresetTwo (h : Mm) (s : State) : Host.Outcome State Fault Refusal := receiveP2D (.presetTwo h) s

/-- `PRESET3` (R156, R180). -/
def execPresetThree (h : Mm) (s : State) : Host.Outcome State Fault Refusal := receiveP2D (.presetThree h) s

/-- `UNKNOWN_P`, the reset keys among them (R109, R157, R180). -/
def execUnknownP (a b c d k : Byte) (s : State) : Host.Outcome State Fault Refusal :=
  receiveP2D (.unknownP a b c d k) s

end Sys2Proof.Machine
end

