-- ==== Sys2Proof/Machine/Dispatch.lean ====
section
/-! DEFINITION. One arm per frame kind: its reception, the effect of the step in which its 7th byte arrives. -/
namespace Sys2Proof.Machine

def exec (i : Instr) (s : State) : Host.Outcome State Fault Refusal :=
  match i with
  | .height h => Sys2Proof.Machine.execHeight h s
  | .unknownD a b c d k => Sys2Proof.Machine.execUnknownD a b c d k s
  | .up => Sys2Proof.Machine.execUp s
  | .down => Sys2Proof.Machine.execDown s
  | .noKey => Sys2Proof.Machine.execNoKey s
  | .presetOne h => Sys2Proof.Machine.execPresetOne h s
  | .presetTwo h => Sys2Proof.Machine.execPresetTwo h s
  | .presetThree h => Sys2Proof.Machine.execPresetThree h s
  | .unknownP a b c d k => Sys2Proof.Machine.execUnknownP a b c d k s

end Sys2Proof.Machine
end

