-- ==== Sys2Proof/Machine/Synchronizer.lean ====
section
/-! DEFINITION. The frame synchronizers and link readers: `RX_BYTE` with its five cases, `RX_TIMEOUT`, `RX_ERROR`
(41_synchronizer.md R170 to R181; 60_exceptions.md R283). -/
namespace Sys2Proof.Machine

/-- Accept START: `L.buf[0] <- 0x68 ; L.pos <- 1` (R171). -/
def LinkState.acceptStart (l : LinkState) : LinkState :=
  { l with buf := bufWrite l.buf 0 Config.startByte, pos := 1 }

/-- Discard one byte: `L.drop_acc <- L.drop_acc + 1` (R172). -/
def LinkState.discardOne (l : LinkState) : LinkState := { l with dropAcc := l.dropAcc + 1 }

/-- Fill: `L.buf[L.pos] <- b ; L.pos <- L.pos + 1` (R173). -/
def LinkState.fill (l : LinkState) (b : Byte) : LinkState :=
  { l with buf := bufWrite l.buf l.pos b, pos := l.pos + 1 }

/-- Discard seven bytes: `L.drop_acc <- L.drop_acc + 7 ; L.pos <- 0`; FrameCorruption (R175, R272). -/
def LinkState.discardSeven (l : LinkState) : LinkState := { l with dropAcc := l.dropAcc + 7, pos := 0 }

/-- `RX_BYTE(L, b)`: exactly one of R171 to R175. A reader that is not Running ignores the byte (R170, R283). The 7th
byte of a valid candidate runs the instruction the link's decoder reads from it (R174, R179, R180). -/
def rxByte (L : Link) (b : Byte) (s : State) : Host.Outcome State Fault Refusal :=
  let l := s.link L
  if s.isRunning (readerOf L) then
    if l.pos = 0 then
      if b = Config.startByte then .next (s.setLink L l.acceptStart)
      else .next (s.setLink L l.discardOne)
    else if l.pos < 6 then .next (s.setLink L (l.fill b))
    else
      match decodeFrame L (candidate l b) with
      | .ok i => exec i s
      | .error _ => .next (s.setLink L l.discardSeven)
  else .next s

/-- `RX_TIMEOUT(L)`: the accumulated drops are reported; the partial frame is kept (R176, R181). -/
def rxTimeout (L : Link) (s : State) : State :=
  if s.isRunning (readerOf L) then s.setLink L (s.link L).report else s

/-- `RX_ERROR(L)`: PortIOError.Read on the link's reader; ignored if it is not Running (R283). -/
def rxError (L : Link) (s : State) : State :=
  if s.isRunning (readerOf L) then s.raise (readerOf L) .portRead else s

/-- The events of one `read(timeout)` of the serial port: `n ≥ 1` bytes are `n` `RX_BYTE` events in their order, no byte is
one `RX_TIMEOUT` (R178). -/
def readEvents (L : Link) (bytes : List Byte) : List Event :=
  match bytes with
  | [] => [.rxTimeout L]
  | b :: rest => .rxByte L b :: rest.map (Event.rxByte L)

end Sys2Proof.Machine
end

