-- ==== Sys2Proof/Machine/Events.lean ====
section
/-! DEFINITION. One atomic step or input event (00_scope.md R13, R15): the turn of each agent, `TX_ERROR`, and which event
is next. -/
namespace Sys2Proof.Machine

/-- A link reader's own step: with `shutdown` set it halts; all else it does is driven by events (R185, R246). -/
def readerStep (L : Link) (s : State) : State :=
  if s.isRunning (readerOf L) && s.shutdown then s.halt (readerOf L) else s

/-- The turn of agent `A`: the one step its guards and priorities give it, or none (R13, R292). -/
def agentStep (A : Agent) (s : State) : Host.Outcome State Fault Refusal :=
  match A with
  | .deskReader => .next (readerStep .desk s)
  | .panelWriter => panelWriterStep s
  | .panelReader => .next (readerStep .panel s)
  | .debouncer => .next (debouncerStep s)
  | .controlLoop => controlLoopStep s

/-- The guard of the `TX` that link `L`'s writer is about to make (R202, R235). -/
def State.txDue (L : Link) (s : State) : Bool :=
  match L with
  | .desk => s.deskTxDue
  | .panel => s.panelTxDue

/-- `TX_ERROR(L)`: takes the place of a `TX` that is about to be made; the writer faults and the repeat count stays (R284).
Where no `TX` is about to be made there is nothing it could replace and nothing happens (notes/assumptions/10.md). -/
def txError (L : Link) (s : State) : State :=
  if s.txDue L then s.raise (writerOf L) .portWrite else s

/-- One event or agent turn, whole or not at all (R13). -/
def act (e : Event) (s : State) : Host.Outcome State Fault Refusal :=
  match e with
  | .reset => .next s.resetBlock
  | .rxByte L b => rxByte L b s
  | .rxTimeout L => .next (rxTimeout L s)
  | .rxError L => .next (rxError L s)
  | .txError L => .next (txError L s)
  | .tick => .next (tick s)
  | .moveToHeight h => .next (moveToHeight h s)
  | .shutdown => .next (shutdownBlock s)
  | .readCurrentHeight => .next (readCurrentHeight s)
  | .readCurrentPanelKey => .next (readCurrentPanelKey s)
  | .readFound L => .next (readFound L s)
  | .readDropped L => .next (readDropped L s)
  | .agentStep A => agentStep A s

/-- The next event: the first one pending, or, where none is listed, a free value (R13; notes/assumptions/1.md). -/
def State.nextEvent (s : State) : Event :=
  match s.env.pending with
  | e :: _ => e
  | [] => Config.environment s.env.drawn

/-- `s` with the next event taken: off the pending list, or drawn from the free environment. -/
def State.eventTaken (s : State) : State :=
  match s.env.pending with
  | _ :: rest => { s with env := { s.env with pending := rest } }
  | [] => { s with env := { s.env with drawn := s.env.drawn + 1 } }

/-- `s` with `events` listed as the ones to come. -/
def State.withPending (events : List Event) (s : State) : State := { s with env := { s.env with pending := events } }

end Sys2Proof.Machine
end

