-- ==== Sys2Proof/Machine/Step.lean ====
section
/-! DEFINITION. One step: the next event of the total order of R13, and what it does. -/
namespace Sys2Proof.Machine

/-- One atomic step (R13). -/
def step (s : State) : Host.Outcome State Fault Refusal := act s.nextEvent s.eventTaken

/-- `s` about to receive the last byte of the frame with the table word `w`: the link `tableLink` selects has accepted the
first six bytes, its reader is Running, and the event to come is the arrival of the 7th. notes/assumptions/3.md. -/
def State.withFetchWord (s : State) (nbits w : Nat) : State :=
  let f := tableFrame (w % 2 ^ nbits)
  let L := tableLink f
  let l := s.link L
  let A := readerOf L
  { s.setLink L { l with buf := { f with b6 := l.buf.b6 }, pos := 6 } with
    run := s.run.set A .running
    cause := s.cause.set A .noFault
    env := { s.env with pending := .rxByte L f.b6 :: s.env.pending } }

end Sys2Proof.Machine
end

