-- ==== Sys2Proof/Machine/Guards.lean ====
section
/-! DEFINITION. Which agents have an enabled step: the guards of the step rules, each as its rule writes it (R13, R43;
42_relay_debouncer.md R201 to R206; 43_control_loop.md R232, R235, R240, R246; 60_exceptions.md R285). -/
namespace Sys2Proof.Machine

/-- R201's guard, without the run state and `shutdown` that every guard shares. -/
def State.panelStartGuard (s : State) : Bool := s.pwState == .idle && !emptyQ s.d2pQ

/-- R202's guard. -/
def State.panelTransmitGuard (s : State) : Bool := s.pwState == .writing && s.pwRemaining != 0 && s.pwGap == 0

/-- R203's guard. -/
def State.panelCompleteGuard (s : State) : Bool := s.pwState == .writing && s.pwRemaining == 0 && s.pwGap == 0

/-- R285's receive side for the panel writer. -/
def State.panelReceiveFaultGuard (s : State) : Bool :=
  s.pwState == .idle && emptyQ s.d2pQ && !s.isRunning .deskReader

/-- R205's guard. -/
def State.takeGuard (s : State) : Bool := !emptyQ s.panelQ

/-- R206's guard. -/
def State.expireGuard (s : State) : Bool := emptyQ s.panelQ && s.debounceExpired && s.isRunning .panelReader

/-- R285's receive side for the debouncer. -/
def State.debounceReceiveFaultGuard (s : State) : Bool := emptyQ s.panelQ && !s.isRunning .panelReader

/-- R232's guard; `shutdown` is in the shared part. -/
def State.wakeGuard (s : State) : Bool := s.clState == .waiting && (s.wake || s.idleExpired)

/-- R235's guard. -/
def State.deskTransmitGuard (s : State) : Bool := s.clState == .writing && s.txRemaining != 0 && s.txGap == 0

/-- R240's guard. -/
def State.writeCompleteGuard (s : State) : Bool := s.clState == .writing && s.txRemaining == 0 && s.txGap == 0

/-- Some step rule of agent `A` other than halting has its guard. A link reader's steps are driven by events alone. -/
def State.workGuard (A : Agent) (s : State) : Bool :=
  match A with
  | .deskReader => false
  | .panelReader => false
  | .panelWriter => s.panelStartGuard || s.panelTransmitGuard || s.panelCompleteGuard || s.panelReceiveFaultGuard
  | .debouncer => s.takeGuard || s.expireGuard || s.debounceReceiveFaultGuard
  | .controlLoop => s.wakeGuard || s.deskTransmitGuard || s.writeCompleteGuard

/-- Agent `A` has an enabled step: it is Running (R43), and `shutdown` is set (R246) or one of its step rules applies. -/
def State.enabled (A : Agent) (s : State) : Bool := s.isRunning A && (s.shutdown || s.workGuard A)

end Sys2Proof.Machine
end

