-- ==== Sys2Proof/Machine/Script.lean ====
section
/-! DEFINITION. The event scripts of 30_encoding.md R113 and the eager schedule they are run with (95_test_vectors.md
section 0, D31). The schedule is one legal run, not a rule of the block: `step` does not use this file. -/
namespace Sys2Proof.Machine

/-- A line of an event script (R113). -/
inductive ScriptLine where
  | reset
  | rx (L : Link) (bytes : List Byte)
  | timeout (L : Link)
  | tick (n : Nat)
  | move (h : Nat)
  | shutdown
  | err (L : Link)
  | failTx (L : Link)
  | run
  | manual
  deriving DecidableEq, Repr

/-- A script being run: the block's state, whether `MANUAL` holds, and the links whose next `TX` fails. -/
structure ScriptRun where
  state : State
  manual : Bool
  failDesk : Bool
  failPanel : Bool
  deriving DecidableEq, Repr

/-- The fixed order of the agents in a round (D31). -/
def eagerOrder : List Agent := [.deskReader, .panelWriter, .panelReader, .debouncer, .controlLoop]

/-- The next `TX` on this agent's link is to fail (R113, `FAILTX`). -/
def ScriptRun.failing (A : Agent) (r : ScriptRun) : Option Link :=
  match A with
  | .controlLoop => if r.failDesk && r.state.txDue .desk then some .desk else none
  | .panelWriter => if r.failPanel && r.state.txDue .panel then some .panel else none
  | .deskReader => none
  | .panelReader => none
  | .debouncer => none

/-- One turn of an agent in a script: its step, or the `TX_ERROR` a `FAILTX` line asked for. -/
def ScriptRun.turn (A : Agent) (r : ScriptRun) : ScriptRun :=
  match r.failing A with
  | some .desk => { r with state := txError .desk r.state, failDesk := false }
  | some .panel => { r with state := txError .panel r.state, failPanel := false }
  | none =>
    match agentStep A r.state with
    | .next s => { r with state := s }
    | .fault _ => r
    | .refused _ => r

/-- Agent `A` steps until it has no enabled step, at most `fuel` times. -/
def ScriptRun.drain (A : Agent) : Nat → ScriptRun → ScriptRun
  | 0, r => r
  | fuel + 1, r => if r.state.enabled A then ScriptRun.drain A fuel (r.turn A) else r

/-- Rounds over all agents until a whole round takes no step, at most `fuel` of them. -/
def ScriptRun.quiesce (perAgent : Nat) : Nat → ScriptRun → ScriptRun
  | 0, r => r
  | fuel + 1, r =>
    if eagerOrder.any (fun A => r.state.enabled A) then
      ScriptRun.quiesce perAgent fuel (eagerOrder.foldl (fun r A => ScriptRun.drain A perAgent r) r)
    else r

/-- The implied `RUN` after a line, absent after `MANUAL` (R113). DESIGN CHOICE (notes/assumptions/21.md): under `MANUAL` a
link reader also takes its halt step after `SHUTDOWN` at `RUN` lines only. R113 limits the panel writer, the debouncer and the
control loop to them and 95_test_vectors.md section 0 (4) speaks of the readers' bytes, not of their halting. -/
def ScriptRun.settle (fuel : Nat) (r : ScriptRun) : ScriptRun := if r.manual then r else r.quiesce fuel fuel

/-- An input event of a script. -/
def ScriptRun.input (e : Event) (r : ScriptRun) : ScriptRun :=
  match act e r.state with
  | .next s => { r with state := s }
  | .fault _ => r
  | .refused _ => r

/-- `TICK n`: the agents run after every single tick (95_test_vectors.md section 0 (2)). -/
def ScriptRun.ticks (fuel : Nat) : Nat → ScriptRun → ScriptRun
  | 0, r => r
  | n + 1, r => ScriptRun.ticks fuel n ((r.input .tick).settle fuel)

/-- What a line itself does, before the `RUN` implied after it (R113). -/
def ScriptRun.perform (fuel : Nat) (l : ScriptLine) (r : ScriptRun) : ScriptRun :=
  match l with
  | .reset => r.input .reset
  | .rx L bytes => (bytes.map (Event.rxByte L)).foldl (fun r e => r.input e) r
  | .timeout L => r.input (.rxTimeout L)
  | .tick n => r.ticks fuel n
  | .move h => r.input (.moveToHeight h)
  | .shutdown => r.input .shutdown
  | .err L => r.input (.rxError L)
  | .failTx .desk => { r with failDesk := true }
  | .failTx .panel => { r with failPanel := true }
  | .run => r.quiesce fuel fuel
  | .manual => { r with manual := true }

/-- One line of a script: what it does, then the implied `RUN`, after every line (R113; 95_test_vectors.md section 0 (2)). -/
def ScriptRun.line (fuel : Nat) (l : ScriptLine) (r : ScriptRun) : ScriptRun := (r.perform fuel l).settle fuel

/-- A whole script from state `s`. -/
def runScript (fuel : Nat) (lines : List ScriptLine) (s : State) : State :=
  (lines.foldl (fun (r : ScriptRun) l => r.line fuel l) { state := s, manual := false, failDesk := false, failPanel := false }).state

end Sys2Proof.Machine
end

