-- ==== Sys2Proof/Safety.lean ====
section
/-! DEFINITION. The terms claims are stated in: runs of events, what has been transmitted, the invariants of 10_state.md
R48 and those the rules imply, the byte account of 41_synchronizer.md R183. -/
namespace Sys2Proof.Machine

/-- The events of a list, one after the other (R13). -/
def runEvents : List Event → State → Host.Outcome State Fault Refusal
  | [], s => .next s
  | e :: rest, s =>
    match act e s with
    | .next t => runEvents rest t
    | .fault r => .fault r
    | .refused r => .refused r

/-- The frame an output transmits on link `L`, if it is one (R16). -/
def txOn (L : Link) : Output → Option Frame
  | .tx M f => if M = L then some f else none
  | .moveResult _ => none
  | .currentHeight _ => none
  | .currentPanelKey _ => none
  | .frameCounts _ _ _ => none

/-- Every frame transmitted on link `L`, the oldest first. -/
def State.sent (L : Link) (s : State) : List Frame := s.env.outputs.reverse.filterMap (txOn L)

/-- R48 (2): a synchronizer that is Filling has accepted a START. -/
def LinkState.Inv (l : LinkState) : Prop := l.pos ≠ 0 → l.buf.b0 = Config.startByte

/-- What every reachable state meets: the invariants of R48, the ranges of R20, and that the messages and frames inside
the block are the ones a decoder and an encoder make (R140, R147). R48 (1) holds by the type of `pos`; R48 (6) and (7) are
about steps. -/
structure State.Inv (s : State) : Prop where
  /-- R48 (2), desk link. -/
  deskFilling : s.desk.Inv
  /-- R48 (2), panel link. -/
  panelFilling : s.panel.Inv
  /-- R48 (3). -/
  waitingNothingLeft : s.clState = .waiting → s.txRemaining = 0 ∧ s.txGap = 0
  /-- The same of the panel writer (R203). -/
  idleNothingLeft : s.pwState = .idle → s.pwRemaining = 0 ∧ s.pwGap = 0
  /-- R48 (4), R29. -/
  legalTarget : ∀ t, s.targetHeight = some t → 650 ≤ t.toNat ∧ t.toNat ≤ 1295 ∧ t.toNat % 5 = 0
  /-- R48 (5), R28. -/
  legalHeight : s.currentHeight = Config.hReset ∨ heightInRange s.currentHeight = true
  /-- R33. -/
  debRange : s.debTimer.toNat ≤ 1000
  /-- R36. -/
  idleRange : s.idleTimer.toNat ≤ 10000
  /-- R38. -/
  txRemainingRange : s.txRemaining.toNat ≤ 200
  /-- R42. -/
  pwRemainingRange : s.pwRemaining.toNat ≤ Config.relayTimes.toNat
  /-- R41. -/
  txGapRange : s.txGap ≤ Config.tFrame
  /-- R42. -/
  pwGapRange : s.pwGap ≤ Config.tFrame
  /-- R30: the key held came from the panel's decoder (R205). -/
  keyDecoded : ∀ m, s.currentPanelKey = some m → m.instr.wellFormed = true
  /-- R34, R180. -/
  panelQDecoded : ∀ m ∈ s.panelQ, m.instr.wellFormed = true
  /-- R35, R200. -/
  d2pQDecoded : ∀ m ∈ s.d2pQ, m.instr.wellFormed = true
  /-- R233. -/
  txFrameValid : s.clState = .writing → frameValid s.txFrame = true
  /-- R201. -/
  pwFrameValid : s.pwState = .writing → frameValid s.pwFrame = true
  /-- R43, R282: a cause is recorded exactly while the agent is Faulted. -/
  causeOfFault : ∀ A, s.run.get A = .faulted ↔ s.cause.get A ≠ .noFault

/-- R209: with a target pending and no key held the control loop is writing what that pursuit decided, or has a
notification pending. -/
def State.PursuitAwake (s : State) : Prop :=
  s.targetHeight ≠ none → s.currentPanelKey = none → s.wake = false →
    s.clState = .writing ∧ (s.txResignal = true ∨ s.txClears = true)

/-- R183's sum for link `L`: bytes in emitted frames, reported drops, unreported drops, the partial candidate. -/
def State.accounted (L : Link) (s : State) : Count :=
  7 * (s.link L).frameCount + (s.link L).droppedByteCount + (s.link L).dropAcc + BitVec.ofNat 64 (s.link L).pos.val

/-- An `RX_BYTE` on link `L`. -/
def isRxByteOn (L : Link) : Event → Bool
  | .rxByte M _ => M == L
  | .reset | .rxTimeout _ | .rxError _ | .txError _ | .tick | .moveToHeight _ | .shutdown | .readCurrentHeight
  | .readCurrentPanelKey | .readFound _ | .readDropped _ | .agentStep _ => false

/-- An event that brings the block neither a received byte nor a host's target (R314). -/
def bringsNothing : Event → Bool
  | .rxByte _ _ => false
  | .moveToHeight _ => false
  | .reset | .rxTimeout _ | .rxError _ | .txError _ | .tick | .shutdown | .readCurrentHeight
  | .readCurrentPanelKey | .readFound _ | .readDropped _ | .agentStep _ => true

/-- Nothing to send and no reason to: no target, no key, both queues empty, no write under way (R47, R314). -/
structure State.Quiet (s : State) : Prop where
  noTarget : s.targetHeight = none
  noKey : s.currentPanelKey = none
  panelQEmpty : s.panelQ = []
  d2pQEmpty : s.d2pQ = []
  controlLoopWaits : s.clState = .waiting
  panelWriterIdle : s.pwState = .idle

/-- The frames a queued desk message is transmitted as: none only for a height its field cannot hold (R140). -/
def framesOf (q : List D2P) : List Frame := q.filterMap encD2P

/-- The frames of the desk's messages on their way to the panel: sent, being sent, queued, in this order (R77). -/
def State.panelStream (s : State) : List Frame :=
  s.sent .panel ++ (if s.pwState = .writing ∧ s.pwRemaining ≠ 0 then [s.pwFrame] else []) ++ framesOf s.d2pQ

end Sys2Proof.Machine
end

