-- ==== Sys2Proof/Certificates/Slice0/Obligations.lean ====
section
/-! DEFINITION. The statements for the provers, from the numbered rules of spec/. -/

open Sys2Proof Sys2Proof.Machine

/-! ### The codec (40_codec.md) -/

/-- R130: the low 8 bits of the sum of four bytes, symmetric in them, with the rule's corner cases and example. -/
def Obligations.ChecksumIsSumModulo256 : Prop :=
  (∀ b1 b2 b3 b4 : Byte,
    (checksum b1 b2 b3 b4).toNat = (b1.toNat + b2.toNat + b3.toNat + b4.toNat) % 256) ∧
  (∀ b1 b2 b3 b4 : Byte,
    checksum b2 b1 b3 b4 = checksum b1 b2 b3 b4 ∧ checksum b1 b3 b2 b4 = checksum b1 b2 b3 b4 ∧
    checksum b1 b2 b4 b3 = checksum b1 b2 b3 b4) ∧
  checksum 0 0 0 0 = 0 ∧ checksum 0xFF 0xFF 0xFF 0xFF = 0xFC ∧ checksum 1 0 0xFF 0xFF = 0xFF ∧
  checksum 1 8 0xFF 0xFF = 0x07 ∧ checksum 1 0 2 133 = 136

/-- From R131: validity is START, END and the checksum, whatever B1 and B2 are, with the rule's examples. That of the 2^56
frames exactly 2^32 are valid is an inference the spec marks as its own (40_codec.md R131: "[derived: from the
definition]"). -/
def Obligations.ValidFramesAreCounted : Prop :=
  (∀ f : Frame, frameValid f = true ↔
    f.b0 = 0x68 ∧ f.b6 = 0x16 ∧ f.b5.toNat = (f.b1.toNat + f.b2.toNat + f.b3.toNat + f.b4.toNat) % 256) ∧
  Nat.card Frame = 2 ^ 56 ∧ Nat.card { f : Frame // frameValid f = true } = 2 ^ 32 ∧
  frameValid ⟨0x68, 1, 0, 0, 0, 1, 0x16⟩ = true ∧ frameValid ⟨0x68, 1, 0, 0, 0, 2, 0x16⟩ = false ∧
  frameValid ⟨0x68, 1, 0, 0, 0, 1, 0x17⟩ = false

/-- R141, R142, R143, R147, R149: the frames of the kinds without a height; the frame of an `Unknown` is valid exactly when
its stored checksum is the sum of its other bytes. -/
def Obligations.EncodersOfKeysAndUnknowns : Prop :=
  encP2D .up = some ⟨0x68, 0x01, 0x01, 0x00, 0x00, 0x02, 0x16⟩ ∧
  encP2D .down = some ⟨0x68, 0x01, 0x02, 0x00, 0x00, 0x03, 0x16⟩ ∧
  encP2D .noKey = some ⟨0x68, 0x01, 0x03, 0x00, 0x00, 0x04, 0x16⟩ ∧
  (∀ a b c d k : Byte, encP2D (.unknownP a b c d k) = some ⟨0x68, a, b, c, d, k, 0x16⟩) ∧
  (∀ a b c d k : Byte, encD2P (.unknownD a b c d k) = some ⟨0x68, a, b, c, d, k, 0x16⟩) ∧
  (∀ a b c d k : Byte, frameValid ⟨0x68, a, b, c, d, k, 0x16⟩ = true ↔
    k.toNat = (a.toNat + b.toNat + c.toNat + d.toNat) % 256)

/-- R144, R145, R146: the three presets, least significant byte first, with R144's corner cases. The last two clauses, at 1200
and 725, are the examples that R145 and R146 mark "[derived]", instances of the first clause. -/
def Obligations.PresetEncodersAreLittleEndian : Prop :=
  (∀ h : Mm, h.toNat ≤ 65535 → ∀ lsb msb : Byte, lsb.toNat = h.toNat % 256 → msb.toNat = h.toNat / 256 →
    encP2D (.presetOne h) = some ⟨0x68, 0x01, 0x06, lsb, msb, checksum 0x01 0x06 lsb msb, 0x16⟩ ∧
    encP2D (.presetTwo h) = some ⟨0x68, 0x01, 0x07, lsb, msb, checksum 0x01 0x07 lsb msb, 0x16⟩ ∧
    encP2D (.presetThree h) = some ⟨0x68, 0x01, 0x08, lsb, msb, checksum 0x01 0x08 lsb msb, 0x16⟩) ∧
  encP2D (.presetOne 0) = some ⟨0x68, 1, 6, 0, 0, 7, 0x16⟩ ∧
  encP2D (.presetOne 65535) = some ⟨0x68, 1, 6, 0xFF, 0xFF, 0x05, 0x16⟩ ∧
  encP2D (.presetOne 255) = some ⟨0x68, 1, 6, 0xFF, 0x00, 0x06, 0x16⟩ ∧
  encP2D (.presetOne 256) = some ⟨0x68, 1, 6, 0x00, 0x01, 0x08, 0x16⟩ ∧
  encP2D (.presetOne 650) = some ⟨0x68, 1, 6, 138, 2, 147, 0x16⟩ ∧
  encP2D (.presetTwo 1200) = some ⟨0x68, 1, 7, 176, 4, 188, 0x16⟩ ∧
  encP2D (.presetThree 725) = some ⟨0x68, 1, 8, 213, 2, 224, 0x16⟩

/-- R148: `Height`, most significant byte first, above the offset 650, with the rule's corner cases. -/
def Obligations.HeightEncoderIsBigEndian : Prop :=
  (∀ h : Mm, 650 ≤ h.toNat → h.toNat ≤ 66185 → ∀ msb lsb : Byte,
    msb.toNat = (h.toNat - 650) / 256 → lsb.toNat = (h.toNat - 650) % 256 →
    encD2P (.height h) = some ⟨0x68, 0x01, 0x00, msb, lsb, checksum 0x01 0x00 msb lsb, 0x16⟩) ∧
  encD2P (.height 650) = some ⟨0x68, 1, 0, 0, 0, 1, 0x16⟩ ∧
  encD2P (.height 66185) = some ⟨0x68, 1, 0, 0xFF, 0xFF, 0xFF, 0x16⟩ ∧
  encD2P (.height 905) = some ⟨0x68, 1, 0, 0x00, 0xFF, 0x00, 0x16⟩ ∧
  encD2P (.height 906) = some ⟨0x68, 1, 0, 0x01, 0x00, 0x02, 0x16⟩ ∧
  encD2P (.height 1295) = some ⟨0x68, 1, 0, 2, 133, 136, 0x16⟩

/-- From R140: an encoder gives no frame exactly for a height its field cannot hold, and what a block's step does with such
a message is to refuse. -/
def Obligations.EncodersRefuseExactlyOutOfRange : Prop :=
  (∀ h : Mm, encD2P (.height h) = none ↔ h.toNat < 650 ∨ 66185 < h.toNat) ∧
  (∀ h : Mm, encP2D (.presetOne h) = none ↔ 65535 < h.toNat) ∧
  (∀ h : Mm, encP2D (.presetTwo h) = none ↔ 65535 < h.toNat) ∧
  (∀ h : Mm, encP2D (.presetThree h) = none ↔ 65535 < h.toNat) ∧
  (∀ (m : D2P) (rest : List D2P) (s : State), s.run.panelWriter = .running → s.shutdown = false → s.pwState = .idle →
    s.d2pQ = m :: rest → encD2P m = none → act (.agentStep .panelWriter) s = .refused .encRangeError)

/-- R151 to R159: what each key byte decodes to on its link. -/
def Obligations.DecodersSelectByKeyByte : Prop :=
  ∀ f : Frame,
    (f.b2 = 0x01 → decP2D f = .up) ∧ (f.b2 = 0x02 → decP2D f = .down) ∧ (f.b2 = 0x03 → decP2D f = .noKey) ∧
    (f.b2 = 0x06 → ∃ h : Mm, decP2D f = .presetOne h ∧ h.toNat = 256 * f.b4.toNat + f.b3.toNat) ∧
    (f.b2 = 0x07 → ∃ h : Mm, decP2D f = .presetTwo h ∧ h.toNat = 256 * f.b4.toNat + f.b3.toNat) ∧
    (f.b2 = 0x08 → ∃ h : Mm, decP2D f = .presetThree h ∧ h.toNat = 256 * f.b4.toNat + f.b3.toNat) ∧
    (f.b2 ∉ [0x01, 0x02, 0x03, 0x06, 0x07, 0x08] → decP2D f = .unknownP f.b1 f.b2 f.b3 f.b4 f.b5) ∧
    (f.b2 = 0x00 → ∃ h : Mm, decD2P f = .height h ∧ h.toNat = 650 + 256 * f.b3.toNat + f.b4.toNat) ∧
    (f.b2 ≠ 0x00 → decD2P f = .unknownD f.b1 f.b2 f.b3 f.b4 f.b5)

/-- From R104: two frames with the same key byte decode to the same message if they agree on what that kind reads: nothing
for `Up`, `Down`, `NoKey`; B3 and B4 for a height; B1 to B5 for an `Unknown`. B0 and B6 are never read. -/
def Obligations.DecodersReadOnlyWhatTheKindNeeds : Prop :=
  ∀ f g : Frame, f.b2 = g.b2 →
    (f.b2 ∈ [0x01, 0x02, 0x03] → decP2D f = decP2D g) ∧
    (f.b2 ∈ [0x06, 0x07, 0x08] → f.b3 = g.b3 → f.b4 = g.b4 → decP2D f = decP2D g) ∧
    (f.b2 = 0x00 → f.b3 = g.b3 → f.b4 = g.b4 → decD2P f = decD2P g) ∧
    (f.b1 = g.b1 → f.b3 = g.b3 → f.b4 = g.b4 → f.b5 = g.b5 → decP2D f = decP2D g ∧ decD2P f = decD2P g)

/-- R160: the round trip of messages, for every message of R12's types, an `Unknown` under the rule's condition on `b`. -/
def Obligations.MessagesRoundTrip : Prop :=
  (∀ m : P2D, m.inRange = true →
    (∀ a b c d k : Byte, m = .unknownP a b c d k → b ∉ [0x01, 0x02, 0x03, 0x06, 0x07, 0x08]) →
    ∃ f : Frame, encP2D m = some f ∧ decP2D f = m) ∧
  (∀ m : D2P, m.inRange = true → (∀ a b c d k : Byte, m = .unknownD a b c d k → b ≠ 0x00) →
    ∃ f : Frame, encD2P m = some f ∧ decD2P f = m)

/-- Decode and encode agree on every well-formed instruction: its frame is valid, and the decoder of its link, also from
the seven bytes in wire order, reads the instruction back. -/
def Obligations.InstructionsRoundTrip : Prop :=
  ∀ i : Instr, i.wellFormed = true →
    ∃ f : Frame, encode i = some f ∧ frameValid f = true ∧ decodeFrame i.link f = .ok i ∧
      decodeBytes i.link f.toList = .ok i

/-- From R162: which valid frames are what the encoder makes of their decoding, in both directions. -/
def Obligations.FramesRoundTripExactly : Prop :=
  (∀ f : Frame, frameValid f = true →
    (encP2D (decP2D f) = some f ↔
      f.b2 ∉ [0x01, 0x02, 0x03, 0x06, 0x07, 0x08] ∨
      (f.b1 = 0x01 ∧ (f.b2 ∈ [0x06, 0x07, 0x08] ∨ (f.b3 = 0x00 ∧ f.b4 = 0x00))))) ∧
  (∀ f : Frame, frameValid f = true → (encD2P (decD2P f) = some f ↔ f.b2 ≠ 0x00 ∨ f.b1 = 0x01))

/-- From R163: an `Unknown` built outside the block with a known key byte carries its five bytes in its frame, and that frame
decodes to another message. -/
def Obligations.UnknownsWithKnownKeysAlias : Prop :=
  (∀ a b c d k : Byte, b ∈ [0x01, 0x02, 0x03, 0x06, 0x07, 0x08] →
    ∃ f : Frame, encP2D (.unknownP a b c d k) = some f ∧
      (f.b1 = a ∧ f.b2 = b ∧ f.b3 = c ∧ f.b4 = d ∧ f.b5 = k) ∧ ∀ a' b' c' d' k' : Byte, decP2D f ≠ .unknownP a' b' c' d' k') ∧
  (∀ a c d k : Byte, ∃ f : Frame, encD2P (.unknownD a 0x00 c d k) = some f ∧
      (f.b1 = a ∧ f.b2 = 0x00 ∧ f.b3 = c ∧ f.b4 = d ∧ f.b5 = k) ∧ ∃ h : Mm, decD2P f = .height h)

/-- From R161: every frame an encoder builds from a known kind carries the sum of its bytes 1 to 4 and is valid. -/
def Obligations.KnownKindsEncodeToValidFrames : Prop :=
  (∀ (m : P2D) (f : Frame), (∀ a b c d k : Byte, m ≠ .unknownP a b c d k) → encP2D m = some f →
    f.b5.toNat = (f.b1.toNat + f.b2.toNat + f.b3.toNat + f.b4.toNat) % 256 ∧ frameValid f = true) ∧
  (∀ (h : Mm) (f : Frame), encD2P (.height h) = some f →
    f.b5.toNat = (f.b1.toNat + f.b2.toNat + f.b3.toNat + f.b4.toNat) % 256 ∧ frameValid f = true)

/-- From R107, R131, R154 to R159: a link's decoder accepts exactly the valid frames, and what it reads is a well-formed
instruction of that link. -/
def Obligations.DecodersYieldWellFormedInstructions : Prop :=
  ∀ (L : Link) (f : Frame),
    (frameValid f = true → ∃ i : Instr, decodeFrame L f = .ok i) ∧
    (∀ i : Instr, decodeFrame L f = .ok i → frameValid f = true ∧ i.link = L ∧ i.wellFormed = true)

/-- Seven bytes written out from the spec's encodings decode to the instructions they stand for, and bytes that are no valid
frame are rejected by name. The last two clauses are not R107's: they show the host's hook `decodeTableWord` by the convention
of notes/assumptions/3.md (DESIGN CHOICE), which chooses the link by the key byte and replaces B5 by the sum; the last word's
own B5, 0x5E, is not the sum 0x02, so as a received frame it is invalid. -/
def Obligations.WrittenWordsDecode : Prop :=
  decodeBytes .desk [0x68, 0x01, 0x00, 0x02, 0x85, 0x88, 0x16] = .ok (.height 1295) ∧
  decodeBytes .desk [0x68, 0x01, 0x05, 0x12, 0x34, 0x4C, 0x16] = .ok (.unknownD 1 5 0x12 0x34 0x4C) ∧
  decodeBytes .panel [0x68, 0x01, 0x01, 0x00, 0x00, 0x02, 0x16] = .ok .up ∧
  decodeBytes .panel [0x68, 0x01, 0x06, 0x8A, 0x02, 0x93, 0x16] = .ok (.presetOne 650) ∧
  decodeBytes .panel [0x68, 0x01, 0x0A, 0x00, 0x00, 0x0B, 0x16] = .ok (.unknownP 1 10 0 0 11) ∧
  decodeBytes .desk [0x68, 0x01, 0x01, 0x00, 0x00, 0x02, 0x16] = .ok (.unknownD 1 1 0 0 2) ∧
  decodeBytes .panel [0x68, 0x01, 0x01, 0x00, 0x00, 0x03, 0x16] = .error .badChecksum ∧
  decodeBytes .panel [0x68, 0x01, 0x01, 0x00, 0x00, 0x02, 0x17] = .error .badEnd ∧
  decodeBytes .panel [0x67, 0x01, 0x01, 0x00, 0x00, 0x02, 0x16] = .error .badStart ∧
  decodeBytes .panel [0x68, 0x01, 0x01] = .error .wrongLength ∧
  decodeTableWord 56 0x68010700040C16 = some (.presetTwo 1024) ∧
  decodeTableWord 56 0x68010001005E16 = some (.height 906)

/-! ### The step -/

/-- From R13: a step takes the first pending event, or, with none pending, the event a free value gives; nothing but the
environment's own bookkeeping changes beside what that event does. -/
def Obligations.StepTakesTheNextEvent : Prop :=
  (∀ (s : State) (e : Event) (rest : List Event), s.env.pending = e :: rest →
    step s = act e { s with env := { s.env with pending := rest } }) ∧
  (∀ s : State, s.env.pending = [] →
    step s = act (Config.environment s.env.drawn) { s with env := { s.env with drawn := s.env.drawn + 1 } })

/-- A step runs the decoded instruction (R174, R179, R180): when the next event is the 7th byte of a candidate that the
Running reader's link decodes to `i`, the step is `exec i` at that state, the event taken off the pending list. -/
def Obligations.StepRunsTheDecodedInstruction : Prop :=
  ∀ (L : Link) (b : Byte) (rest : List Event) (i : Instr) (s : State),
    s.env.pending = .rxByte L b :: rest → s.run.get (readerOf L) = .running → (s.link L).pos = 6 →
    decodeFrame L
      ⟨(s.link L).buf.b0, (s.link L).buf.b1, (s.link L).buf.b2, (s.link L).buf.b3, (s.link L).buf.b4, (s.link L).buf.b5, b⟩
      = .ok i →
    step s = exec i { s with env := { s.env with pending := rest } }

/-- The model's own convention for a word of opcode_table.json (notes/assumptions/3.md): after `withFetchWord` the next step
runs exactly the instruction `decodeTableWord` reads from the word. -/
def Obligations.TableWordRunsNext : Prop :=
  ∀ (s : State) (w : Nat) (i : Instr), decodeTableWord 56 w = some i →
    ∃ (u : State) (f : Frame), step (s.withFetchWord 56 w) = exec i u ∧ decodeFrame i.link f = .ok i ∧
      u = { s.setLink i.link { s.link i.link with buf := { f with b6 := (s.link i.link).buf.b6 }, pos := 6 } with
            run := s.run.set (readerOf i.link) .running
            cause := s.cause.set (readerOf i.link) .noFault }

/-- The model's own form of the order of events (`env.pending`, notes/assumptions/1.md, DESIGN CHOICE), for the total order
of R13 and R78: stepping through a list of pending events is running them in their order, one step each. -/
def Obligations.PendingEventsRunInOrder : Prop :=
  ∀ (events : List Event) (s t : State), runEvents events s = .next t →
    Host.Core.run core events.length (s.withPending events) = .next (t.withPending [])

/-! ### Reception (41_synchronizer.md, 42_relay_debouncer.md) -/

/-- R200: the desk relay, for both desk frame kinds, complete: the reader's counters and position, `current_height`, the
queue, the send-side ChannelError. For a reader that is not Running see `StoppedReadersIgnoreFrames`. -/
def Obligations.DeskFramesAreRelayed : Prop :=
  ∀ (s : State) (l : LinkState),
    l = { s.desk with pos := 0, dropAcc := 0, frameCount := s.desk.frameCount + 1,
                      droppedByteCount := s.desk.droppedByteCount + s.desk.dropAcc } →
    (s.run.deskReader = .running → s.run.panelWriter = .running →
      (∀ h : Mm, exec (.height h) s
        = .next { s with desk := l, currentHeight := h, d2pQ := s.d2pQ ++ [.height h] }) ∧
      (∀ a b c d k : Byte, exec (.unknownD a b c d k) s
        = .next { s with desk := l, d2pQ := s.d2pQ ++ [.unknownD a b c d k] })) ∧
    (s.run.deskReader = .running → s.run.panelWriter ≠ .running →
      (∀ h : Mm, exec (.height h) s
        = .next { s with desk := l, currentHeight := h, run := { s.run with deskReader := .faulted },
                         cause := { s.cause with deskReader := .channelSend } }) ∧
      (∀ a b c d k : Byte, exec (.unknownD a b c d k) s
        = .next { s with desk := l, run := { s.run with deskReader := .faulted },
                         cause := { s.cause with deskReader := .channelSend } }))

/-- The panel's seven frame kinds, complete (from R180, R285): the reader's counters and position, the queue to the
debouncer, the send-side ChannelError. For a reader that is not Running see `StoppedReadersIgnoreFrames`. -/
def Obligations.PanelFramesAreQueued : Prop :=
  ∀ (m : P2D) (i : Instr) (s : State) (l : LinkState),
    ((m = .up ∧ i = .up) ∨ (m = .down ∧ i = .down) ∨ (m = .noKey ∧ i = .noKey) ∨
     (∃ h : Mm, m = .presetOne h ∧ i = .presetOne h) ∨ (∃ h : Mm, m = .presetTwo h ∧ i = .presetTwo h) ∨
     (∃ h : Mm, m = .presetThree h ∧ i = .presetThree h) ∨
     (∃ a b c d k : Byte, m = .unknownP a b c d k ∧ i = .unknownP a b c d k)) →
    l = { s.panel with pos := 0, dropAcc := 0, frameCount := s.panel.frameCount + 1,
                       droppedByteCount := s.panel.droppedByteCount + s.panel.dropAcc } →
    (s.run.panelReader = .running → s.run.debouncer = .running →
      exec i s = .next { s with panel := l, panelQ := s.panelQ ++ [m] }) ∧
    (s.run.panelReader = .running → s.run.debouncer ≠ .running →
      exec i s = .next { s with panel := l, run := { s.run with panelReader := .faulted },
                                cause := { s.cause with panelReader := .channelSend } })

/-- From R170, R283 (the model's reading, notes/assumptions/17.md): every frame kind, when its link's reader is not Running,
is ignored: nothing changes. -/
def Obligations.StoppedReadersIgnoreFrames : Prop :=
  ∀ (i : Instr) (s : State), s.run.get (readerOf i.link) ≠ .running → exec i s = .next s

/-- R171, R172, R173: accept START, discard one byte, fill. -/
def Obligations.SeekingAndFilling : Prop :=
  ∀ (L : Link) (b : Byte) (s : State), s.run.get (readerOf L) = .running →
    ((s.link L).pos = 0 → b = 0x68 →
      act (.rxByte L b) s = .next (s.setLink L { s.link L with buf := { (s.link L).buf with b0 := 0x68 }, pos := 1 })) ∧
    ((s.link L).pos = 0 → b ≠ 0x68 →
      act (.rxByte L b) s = .next (s.setLink L { s.link L with dropAcc := (s.link L).dropAcc + 1 })) ∧
    (∀ p : Fin 7, (s.link L).pos = p → 1 ≤ p.val → p.val ≤ 5 →
      ∃ (buf : Frame) (q : Fin 7),
        act (.rxByte L b) s = .next (s.setLink L { s.link L with buf := buf, pos := q }) ∧ q.val = p.val + 1 ∧
        bufRead buf p = b ∧ ∀ j : Fin 7, j ≠ p → bufRead buf j = bufRead (s.link L).buf j)

/-- R175: a candidate that fails the END or the checksum test is discarded whole, and nothing is emitted. -/
def Obligations.CorruptCandidateIsDiscarded : Prop :=
  ∀ (L : Link) (b : Byte) (s : State), s.run.get (readerOf L) = .running → (s.link L).pos = 6 →
    frameValid { (s.link L).buf with b6 := b } = false →
    act (.rxByte L b) s = .next (s.setLink L { s.link L with dropAcc := (s.link L).dropAcc + 7, pos := 0 })

/-- R176, R181: a timeout reports and clears the accumulated drops; the partial frame and the frame count stay. -/
def Obligations.TimeoutReportsDrops : Prop :=
  ∀ (L : Link) (s : State), s.run.get (readerOf L) = .running →
    act (.rxTimeout L) s = .next (s.setLink L { s.link L with
      droppedByteCount := (s.link L).droppedByteCount + (s.link L).dropAcc, dropAcc := 0 })

/-- R283: `RX_ERROR` faults the link's reader and changes nothing else; events to a reader that is not Running are
ignored. -/
def Obligations.ReadErrorFaultsTheReader : Prop :=
  ∀ (L : Link) (s : State),
    (s.run.get (readerOf L) = .running →
      act (.rxError L) s = .next { s with run := s.run.set (readerOf L) .faulted,
                                          cause := s.cause.set (readerOf L) .portRead }) ∧
    (s.run.get (readerOf L) ≠ .running →
      act (.rxError L) s = .next s ∧ act (.rxTimeout L) s = .next s ∧ ∀ b : Byte, act (.rxByte L b) s = .next s)

/-- Whole reception (from R171, R173, R174): from Seeking, the seven bytes of a valid frame, one event each, come to exactly
the instruction the frame decodes to, with the first six bytes left in the buffer. -/
def Obligations.WholeFrameIsReceived : Prop :=
  ∀ (L : Link) (f : Frame) (i : Instr) (s : State),
    s.run.get (readerOf L) = .running → (s.link L).pos = 0 → decodeFrame L f = .ok i →
    runEvents (readEvents L f.toList) s
      = exec i (s.setLink L { s.link L with buf := { f with b6 := (s.link L).buf.b6 }, pos := 6 })

/-- From R175 and R177: from Seeking, seven bytes that begin with START and are no valid frame are all gone, none is looked
at again, and only the drop accumulator tells. -/
def Obligations.RejectedCandidateIsGone : Prop :=
  ∀ (L : Link) (f : Frame) (s : State),
    s.run.get (readerOf L) = .running → (s.link L).pos = 0 → f.b0 = 0x68 → frameValid f = false →
    runEvents (readEvents L f.toList) s
      = .next (s.setLink L { s.link L with buf := { f with b6 := (s.link L).buf.b6 },
                                           dropAcc := (s.link L).dropAcc + 7 })

/-- From R172: while Seeking, any number of bytes that are not START are discarded one by one. -/
def Obligations.NoiseIsDiscardedByteByByte : Prop :=
  ∀ (L : Link) (noise : List Byte) (s : State),
    s.run.get (readerOf L) = .running → (s.link L).pos = 0 → (∀ b ∈ noise, b ≠ 0x68) →
    runEvents (noise.map (Event.rxByte L)) s
      = .next (s.setLink L { s.link L with dropAcc := (s.link L).dropAcc + BitVec.ofNat 64 noise.length })

/-- R184: on either link, a valid frame, a corrupted one (bad checksum), a valid frame: exactly two emissions, the first
reporting no drop and the second reporting 7. -/
def Obligations.SynchronizerTest : Prop :=
  ∀ (L : Link) (f g h : Frame) (s : State),
    s.run.get (readerOf L) = .running → (L = .desk → s.run.panelWriter = .running) →
    (L = .panel → s.run.debouncer = .running) → (s.link L).pos = 0 → (s.link L).dropAcc = 0 →
    frameValid f = true → frameValid h = true → g.b0 = 0x68 → g.b6 = 0x16 → g.b5 ≠ checksum g.b1 g.b2 g.b3 g.b4 →
    ∃ s₁ s₂ s₃ : State,
      runEvents (readEvents L f.toList) s = .next s₁ ∧
      (s₁.link L).frameCount = (s.link L).frameCount + 1 ∧
      (s₁.link L).droppedByteCount = (s.link L).droppedByteCount ∧
      runEvents (readEvents L g.toList) s₁ = .next s₂ ∧
      (s₂.link L).frameCount = (s₁.link L).frameCount ∧
      (s₂.link L).droppedByteCount = (s₁.link L).droppedByteCount ∧ (s₂.link L).dropAcc = 7 ∧
      runEvents (readEvents L h.toList) s₂ = .next s₃ ∧
      (s₃.link L).frameCount = (s₂.link L).frameCount + 1 ∧
      (s₃.link L).droppedByteCount = (s₂.link L).droppedByteCount + 7 ∧ (s₃.link L).dropAcc = 0 ∧
      (L = .desk → s₃.d2pQ = s.d2pQ ++ [decD2P f, decD2P h]) ∧
      (L = .panel → s₃.panelQ = s.panelQ ++ [decP2D f, decP2D h])

/-- From R183: over any run without `RESET` whose link reader is Running at its end, the bytes accounted for grow by exactly
the `RX_BYTE` events of the link; from reset they are those events. Modulo 2^64. -/
def Obligations.BytesAreConserved : Prop :=
  ∀ (L : Link) (events : List Event) (s t : State),
    Event.reset ∉ events → runEvents events s = .next t → t.run.get (readerOf L) = .running →
    t.accounted L = s.accounted L + BitVec.ofNat 64 (events.countP (isRxByteOn L)) ∧
    (s = State.reset → t.accounted L = BitVec.ofNat 64 (events.countP (isRxByteOn L)))

/-- R21: the two synchronizers are independent: what a link receives never touches the other link's registers. -/
def Obligations.LinksAreIndependent : Prop :=
  ∀ (L M : Link) (b : Byte) (s t : State), M ≠ L →
    (act (.rxByte L b) s = .next t ∨ act (.rxTimeout L) s = .next t ∨ act (.rxError L) s = .next t) →
    (t.link M).buf = (s.link M).buf ∧ (t.link M).pos = (s.link M).pos ∧ (t.link M).dropAcc = (s.link M).dropAcc ∧
    (t.link M).frameCount = (s.link M).frameCount ∧ (t.link M).droppedByteCount = (s.link M).droppedByteCount

/-! ### The panel writer and the debouncer -/

/-- R201, R202: start encodes the head of the queue once (`RELAY_TIMES` is 1, notes/assumptions/9.md), transmit sends it and
loads the gap; a failing transmission faults the writer instead. With R203's completion. -/
def Obligations.PanelWriterSteps : Prop :=
  ∀ s : State, s.run.panelWriter = .running → s.shutdown = false →
    (∀ (m : D2P) (rest : List D2P) (f : Frame), s.pwState = .idle → s.d2pQ = m :: rest → encD2P m = some f →
      act (.agentStep .panelWriter) s
        = .next { s with d2pQ := rest, pwFrame := f, pwRemaining := 1, pwState := .writing }) ∧
    (s.pwState = .writing → s.pwRemaining ≠ 0 → s.pwGap = 0 →
      act (.agentStep .panelWriter) s
        = .next { s with pwRemaining := s.pwRemaining - 1, pwGap := Config.tFrame,
                         env := { s.env with outputs := .tx .panel s.pwFrame :: s.env.outputs } } ∧
      act (.txError .panel) s
        = .next { s with run := { s.run with panelWriter := .faulted },
                         cause := { s.cause with panelWriter := .portWrite } }) ∧
    (s.pwState = .writing → s.pwRemaining = 0 → s.pwGap = 0 →
      act (.agentStep .panelWriter) s = .next { s with pwState := .idle })

/-- R205, R206: the debouncer takes a waiting message; with none waiting for 1000 ticks it forces `None`; both set `wake`.
A waiting message beats the expiry. -/
def Obligations.DebouncerTakesAndExpires : Prop :=
  ∀ s : State, s.run.debouncer = .running → s.shutdown = false →
    (∀ (m : P2D) (rest : List P2D), s.panelQ = m :: rest →
      act (.agentStep .debouncer) s
        = .next { s with panelQ := rest, currentPanelKey := some m, debTimer := 0, wake := true }) ∧
    (s.panelQ = [] → s.run.panelReader = .running → 1000 ≤ s.debTimer.toNat →
      act (.agentStep .debouncer) s = .next { s with currentPanelKey := none, debTimer := 0, wake := true })

/-- R285, the receive side: an agent waiting at an empty queue whose producer is gone faults in its next step, unless
`shutdown` is set, and then it halts. For the send side see `DeskFramesAreRelayed` and `PanelFramesAreQueued`. -/
def Obligations.WaitingOnAGoneProducerFaults : Prop :=
  ∀ s : State,
    (s.run.panelWriter = .running → s.pwState = .idle → s.d2pQ = [] → s.run.deskReader ≠ .running →
      (s.shutdown = false → act (.agentStep .panelWriter) s
        = .next { s with run := { s.run with panelWriter := .faulted },
                         cause := { s.cause with panelWriter := .channelReceive } }) ∧
      (s.shutdown = true → act (.agentStep .panelWriter) s
        = .next { s with run := { s.run with panelWriter := .halted } })) ∧
    (s.run.debouncer = .running → s.panelQ = [] → s.run.panelReader ≠ .running →
      (s.shutdown = false → act (.agentStep .debouncer) s
        = .next { s with run := { s.run with debouncer := .faulted },
                         cause := { s.cause with debouncer := .channelReceive } }) ∧
      (s.shutdown = true → act (.agentStep .debouncer) s
        = .next { s with run := { s.run with debouncer := .halted } }))

/-- From R206, R210, R300: after a message has been taken (`deb_timer` 0), `n` ticks without a panel message and then the
debouncer's step force the key to `None` exactly when `n` has reached 1000. -/
def Obligations.SilenceForcesNone : Prop :=
  ∀ (n : Nat) (s : State), s.run.debouncer = .running → s.run.panelReader = .running → s.shutdown = false →
    s.panelQ = [] → s.debTimer = 0 →
    ∃ t : State, runEvents (List.replicate n Event.tick ++ [.agentStep .debouncer]) s = .next t ∧
      (1000 ≤ n → t.currentPanelKey = none ∧ t.debTimer = 0 ∧ t.wake = true) ∧
      (n < 1000 → t.currentPanelKey = s.currentPanelKey ∧ t.debTimer.toNat = n ∧ t.wake = s.wake)

/-! ### The control loop (43_control_loop.md) -/

/-- R221, R222, R224, R225, R226: the cases of `next_command`, and (from R227) the one that returns `None`. -/
def Obligations.NextCommandCases : Prop :=
  (∀ (k : P2D) (target : Option Mm) (cur : Mm), k ≠ .noKey →
    nextCommand (some k) target cur = some { message := k, repeatCount := 1, clearsTarget := false }) ∧
  (∀ cur : Mm, nextCommand (some .noKey) none cur = some { message := .noKey, repeatCount := 1, clearsTarget := false }) ∧
  (∀ cur : Mm, nextCommand none none cur = none) ∧
  (∀ (key : Option P2D) (t cur : Mm), key = none ∨ key = some .noKey →
    ((t.toNat : Int) - 5 ≤ cur.toNat → (cur.toNat : Int) ≤ t.toNat + 5 →
      nextCommand key (some t) cur = some { message := .noKey, repeatCount := 200, clearsTarget := true }) ∧
    ((cur.toNat : Int) < t.toNat - 5 →
      nextCommand key (some t) cur = some { message := .up, repeatCount := 1, clearsTarget := false }) ∧
    ((cur.toNat : Int) > t.toNat + 5 →
      nextCommand key (some t) cur = some { message := .down, repeatCount := 1, clearsTarget := false }))

/-- R223: the three relations of the window over the integers, and that exactly one of them holds. -/
def Obligations.WindowRelations : Prop :=
  ∀ cur t : Mm,
    (within cur t = true ↔ (t.toNat : Int) - 5 ≤ cur.toNat ∧ (cur.toNat : Int) ≤ t.toNat + 5) ∧
    (within cur t = true ↔ |(cur.toNat : Int) - t.toNat| ≤ 5) ∧
    (below cur t = true ↔ (cur.toNat : Int) < t.toNat - 5) ∧ (below cur t = true ↔ cur.toNat + 5 < t.toNat) ∧
    (above cur t = true ↔ (cur.toNat : Int) > t.toNat + 5) ∧
    ((within cur t = true ∧ below cur t = false ∧ above cur t = false) ∨
     (within cur t = false ∧ below cur t = true ∧ above cur t = false) ∨
     (within cur t = false ∧ below cur t = false ∧ above cur t = true))

/-- R232, R233, R234: the control loop's step in `Waiting`: shutdown first, else on a notification or after 10000 ticks one
evaluation on one snapshot, which consumes the notification, restarts the idle timer and starts the write, if any. -/
def Obligations.ControlLoopEvaluates : Prop :=
  ∀ s : State, s.run.controlLoop = .running → s.clState = .waiting →
    (s.shutdown = true →
      act (.agentStep .controlLoop) s = .next { s with run := { s.run with controlLoop := .halted } }) ∧
    (s.shutdown = false → s.wake = true ∨ 10000 ≤ s.idleTimer.toNat →
      (nextCommand s.currentPanelKey s.targetHeight s.currentHeight = none →
        act (.agentStep .controlLoop) s = .next { s with wake := false, idleTimer := 0 }) ∧
      (∀ (c : Command) (f : Frame), nextCommand s.currentPanelKey s.targetHeight s.currentHeight = some c →
        encP2D c.message = some f →
        act (.agentStep .controlLoop) s
          = .next { s with wake := false, idleTimer := 0, txFrame := f, txRemaining := c.repeatCount,
                           txClears := c.clearsTarget, txResignal := decide (c.message = .up ∨ c.message = .down),
                           txGap := 0, clState := .writing }))

/-- R235 (its exception being R284's desk case): a repetition goes out and loads the gap; a failing one faults the control loop and does not count. -/
def Obligations.ControlLoopTransmits : Prop :=
  ∀ s : State, s.run.controlLoop = .running → s.clState = .writing → s.shutdown = false → s.txRemaining ≠ 0 →
    s.txGap = 0 →
    act (.agentStep .controlLoop) s
      = .next { s with txRemaining := s.txRemaining - 1, txGap := Config.tFrame,
                       env := { s.env with outputs := .tx .desk s.txFrame :: s.env.outputs } } ∧
    act (.txError .desk) s
      = .next { s with run := { s.run with controlLoop := .faulted },
                       cause := { s.cause with controlLoop := .portWrite } }

/-- R240: completion: the target is cleared if the command says so, the loop re-signals if the command was a movement step
and a target is still pending, and it waits again. -/
def Obligations.ControlLoopCompletes : Prop :=
  ∀ s : State, s.run.controlLoop = .running → s.clState = .writing → s.shutdown = false → s.txRemaining = 0 →
    s.txGap = 0 →
    (s.txClears = true → act (.agentStep .controlLoop) s
      = .next { s with targetHeight := none, wake := true, clState := .waiting, idleTimer := 0 }) ∧
    (s.txClears = false → s.txResignal = true → s.targetHeight ≠ none → act (.agentStep .controlLoop) s
      = .next { s with wake := true, clState := .waiting, idleTimer := 0 }) ∧
    (s.txClears = false → s.txResignal = false ∨ s.targetHeight = none → act (.agentStep .controlLoop) s
      = .next { s with clState := .waiting, idleTimer := 0 })

/-- From R37, R235, R236, R240: while the control loop writes, a step other than `RESET` either leaves the frame and flags of
the write alone and sends nothing, or sends that one frame once and counts one repetition down, or completes the write with
nothing left to send. -/
def Obligations.WriteSendsEachRepetitionOnce : Prop :=
  ∀ (e : Event) (s t : State), s.clState = .writing → e ≠ .reset → act e s = .next t →
    t.txFrame = s.txFrame ∧ t.txClears = s.txClears ∧ t.txResignal = s.txResignal ∧
    ((t.clState = .writing ∧ t.txRemaining = s.txRemaining ∧ t.sent .desk = s.sent .desk) ∨
     (e = .agentStep .controlLoop ∧ t.clState = .writing ∧ s.txRemaining.toNat = t.txRemaining.toNat + 1 ∧
      s.txGap = 0 ∧ t.txGap = Config.tFrame ∧ t.sent .desk = s.sent .desk ++ [s.txFrame]) ∨
     (e = .agentStep .controlLoop ∧ t.clState = .waiting ∧ s.txRemaining = 0 ∧ s.txGap = 0 ∧
      t.sent .desk = s.sent .desk))

/-- From R236 and R41: a repetition is never sent early: while the control loop writes and has `tx_gap` ticks to go, no run
without `RESET` and with fewer `TICK` events than that transmits anything on the desk link, and the wait that is left at its
end is what those ticks did not use up. -/
def Obligations.RepetitionsAreSpaced : Prop :=
  ∀ (events : List Event) (s t : State), s.clState = .writing → Event.reset ∉ events → events.count .tick < s.txGap →
    runEvents events s = .next t →
    t.sent .desk = s.sent .desk ∧ t.clState = .writing ∧ t.txRemaining = s.txRemaining ∧
    t.txGap + events.count .tick = s.txGap

/-- From R324: a target accepted while the stop burst of an earlier arrival is finishing is discarded by the completion,
though the host was told `Ok`. -/
def Obligations.TargetSetDuringBurstIsLost : Prop :=
  ∀ (h : Nat) (s : State), s.run.controlLoop = .running → s.shutdown = false → s.clState = .writing →
    s.txClears = true → s.txRemaining = 0 → s.txGap = 0 → 650 ≤ h → h ≤ 1295 → h % 5 = 0 →
    ∃ u t : State, act (.moveToHeight h) s = .next u ∧ u.targetHeight = some (BitVec.ofNat 17 h) ∧
      u.env.outputs = .moveResult .ok :: s.env.outputs ∧
      act (.agentStep .controlLoop) u = .next t ∧ t.targetHeight = none

/-! ### Shutdown, host, time, reset -/

/-- From R246, R247: `SHUTDOWN` sets the flag and nothing else; from then on the step of every Running agent, the control
loop in the middle of a write too, is to halt, which changes no other register. -/
def Obligations.ShutdownHaltsEveryAgent : Prop :=
  (∀ s : State, act .shutdown s = .next { s with shutdown := true }) ∧
  (∀ (A : Agent) (s : State), s.shutdown = true → s.run.get A = .running →
    act (.agentStep A) s = .next { s with run := s.run.set A .halted })

/-- R250 (with R251's result): the two validations, the range first; an accepted height replaces the target and notifies, a
rejected one changes no register. -/
def Obligations.MoveToHeightValidates : Prop :=
  ∀ (h : Nat) (s : State),
    (h < 650 ∨ 1295 < h → act (.moveToHeight h) s
      = .next { s with env := { s.env with outputs := .moveResult (.outOfRange h 650 1295) :: s.env.outputs } }) ∧
    (650 ≤ h → h ≤ 1295 → h % 5 ≠ 0 → act (.moveToHeight h) s
      = .next { s with env := { s.env with outputs := .moveResult (.notMultiple h 5) :: s.env.outputs } }) ∧
    (650 ≤ h → h ≤ 1295 → h % 5 = 0 → ∀ t : Mm, t.toNat = h → act (.moveToHeight h) s
      = .next { s with targetHeight := some t, wake := true,
                       env := { s.env with outputs := .moveResult .ok :: s.env.outputs } })

/-- From R73 and R252 to R255: the status reads return the registers and change none; a counter pair is two reads, `found`
first, and returns the count found then with the dropped bytes of now. That the first read is kept in `env.deskFound` or
`env.panelFound` is the model's form (notes/assumptions/15.md, DESIGN CHOICE), and that a read answers in every state is an
inference (notes/assumptions/20.md, DEDUCED). -/
def Obligations.HostReadsReturnTheRegisters : Prop :=
  ∀ s : State,
    act .readCurrentHeight s
      = .next { s with env := { s.env with outputs := .currentHeight s.currentHeight :: s.env.outputs } } ∧
    act .readCurrentPanelKey s
      = .next { s with env := { s.env with outputs := .currentPanelKey s.currentPanelKey :: s.env.outputs } } ∧
    act (.readFound .desk) s = .next { s with env := { s.env with deskFound := some s.desk.frameCount } } ∧
    act (.readFound .panel) s = .next { s with env := { s.env with panelFound := some s.panel.frameCount } } ∧
    (∀ n : Count, s.env.deskFound = some n → act (.readDropped .desk) s
      = .next { s with env := { s.env with
          deskFound := none
          outputs := .frameCounts .desk n s.desk.droppedByteCount :: s.env.outputs } }) ∧
    (∀ n : Count, s.env.panelFound = some n → act (.readDropped .panel) s
      = .next { s with env := { s.env with
          panelFound := none
          outputs := .frameCounts .panel n s.panel.droppedByteCount :: s.env.outputs } })

/-- R300: `TICK` moves the four timers, whatever the run state of their agents, and changes nothing else. -/
def Obligations.TickMovesTheTimers : Prop :=
  ∀ s : State, ∃ (deb : DebTicks) (idle : IdleTicks) (tx pw : Nat),
    act .tick s = .next { s with debTimer := deb, idleTimer := idle, txGap := tx, pwGap := pw } ∧
    (s.debTimer.toNat < 1000 → deb.toNat = s.debTimer.toNat + 1) ∧ (1000 ≤ s.debTimer.toNat → deb = s.debTimer) ∧
    (s.idleTimer.toNat < 10000 → idle.toNat = s.idleTimer.toNat + 1) ∧
    (10000 ≤ s.idleTimer.toNat → idle = s.idleTimer) ∧
    (0 < s.txGap → s.txGap = tx + 1) ∧ (s.txGap = 0 → tx = 0) ∧ (0 < s.pwGap → s.pwGap = pw + 1) ∧ (s.pwGap = 0 → pw = 0)

/-- R47: `RESET`, from whatever state, gives every register the value the rule's table gives it; `H_RESET` is 0 as the table
decides. The table leaves `L.buf`, `tx_frame`, `pw_frame`, `tx_clears`, `tx_resignal` unspecified, and nothing is said of them here. -/
def Obligations.ResetRestoresEveryRegister : Prop :=
  ∀ s : State, ∃ t : State, act .reset s = .next t ∧
    (∀ L : Link, (t.link L).pos = 0 ∧ (t.link L).dropAcc = 0 ∧ (t.link L).frameCount = 0 ∧
      (t.link L).droppedByteCount = 0) ∧
    t.currentHeight = 0 ∧ t.targetHeight = none ∧ t.currentPanelKey = none ∧ t.wake = false ∧ t.shutdown = false ∧
    t.debTimer = 0 ∧ t.idleTimer = 0 ∧ t.txGap = 0 ∧ t.pwGap = 0 ∧ t.panelQ = [] ∧ t.d2pQ = [] ∧
    t.clState = .waiting ∧ t.pwState = .idle ∧ t.txRemaining = 0 ∧ t.pwRemaining = 0 ∧
    ∀ A : Agent, t.run.get A = .running ∧ t.cause.get A = .noFault

/-! ### Rules of the whole machine -/

/-- From R231: a step other than `RESET` that changes the target or the key leaves the notification set; and the notification
is taken only by the control loop's own step. -/
def Obligations.EveryChangeNotifies : Prop :=
  ∀ (e : Event) (s t : State), e ≠ .reset → act e s = .next t →
    (t.targetHeight ≠ s.targetHeight ∨ t.currentPanelKey ≠ s.currentPanelKey → t.wake = true) ∧
    (s.wake = true → t.wake = false → e = .agentStep .controlLoop ∧ s.clState = .waiting) ∧
    (s.wake = false → t.wake = true →
      e = .agentStep .debouncer ∨ (∃ h : Nat, e = .moveToHeight h) ∨
      (e = .agentStep .controlLoop ∧ s.clState = .writing ∧ t.clState = .waiting))

/-- From R20 ("written by"), R45 and R75: which events can change each shared register, and who transmits on each link. -/
def Obligations.RegistersHaveTheirWriters : Prop :=
  ∀ (e : Event) (s t : State), e ≠ .reset → act e s = .next t →
    (t.currentHeight ≠ s.currentHeight → ∃ b : Byte, e = .rxByte .desk b) ∧
    (t.targetHeight ≠ s.targetHeight → e = .agentStep .controlLoop ∨ ∃ h : Nat, e = .moveToHeight h) ∧
    (t.currentPanelKey ≠ s.currentPanelKey → e = .agentStep .debouncer) ∧
    (∀ L : Link, t.link L ≠ s.link L → (∃ b : Byte, e = .rxByte L b) ∨ e = .rxTimeout L) ∧
    (t.panelQ ≠ s.panelQ → (∃ b : Byte, e = .rxByte .panel b) ∨ e = .agentStep .debouncer) ∧
    (t.d2pQ ≠ s.d2pQ → (∃ b : Byte, e = .rxByte .desk b) ∨ e = .agentStep .panelWriter) ∧
    (t.shutdown ≠ s.shutdown → e = .shutdown) ∧
    (t.sent .desk ≠ s.sent .desk → e = .agentStep .controlLoop) ∧
    (t.sent .panel ≠ s.sent .panel → e = .agentStep .panelWriter)

/-- From R32, R43, R48 (6) and (7), R281, R282: `shutdown` stays set, and an agent that has left Running stays as it stopped,
with its cause, until `RESET`. R43 says that such an agent has no enabled step; that naming it all the same leaves the state
as it is, the second clause, is the model's choice (notes/assumptions/11.md, DESIGN CHOICE). -/
def Obligations.StopsLastUntilReset : Prop :=
  (∀ (e : Event) (s t : State), e ≠ .reset → act e s = .next t →
    (s.shutdown = true → t.shutdown = true) ∧
    ∀ A : Agent, s.run.get A ≠ .running → t.run.get A = s.run.get A ∧ t.cause.get A = s.cause.get A) ∧
  (∀ (A : Agent) (s : State), s.run.get A ≠ .running → act (.agentStep A) s = .next s)

/-- An agent's turn leaves the state as it is exactly when none of its rules has its guard, and the four cases in which a
Running agent only waits, spelled out. When an agent has a step is from R13, R43 and the guards of R201 to R206, R232, R235,
R240, R246, R285; that naming it without one leaves the state as it is is the model's choice (notes/assumptions/11.md,
DESIGN CHOICE). -/
def Obligations.TurnsActExactlyWhenEnabled : Prop :=
  (∀ (A : Agent) (s : State), act (.agentStep A) s = .next s ↔ s.enabled A = false) ∧
  ∀ s : State, s.shutdown = false →
    (s.pwState = .writing → s.pwGap ≠ 0 → act (.agentStep .panelWriter) s = .next s) ∧
    (s.panelQ = [] → s.run.panelReader = .running → s.debTimer.toNat < 1000 →
      act (.agentStep .debouncer) s = .next s) ∧
    (s.clState = .waiting → s.wake = false → s.idleTimer.toNat < 10000 → act (.agentStep .controlLoop) s = .next s) ∧
    (s.clState = .writing → s.txGap ≠ 0 → act (.agentStep .controlLoop) s = .next s)

/-- The reset state meets the invariant. -/
def Obligations.ResetMeetsTheInvariant : Prop := State.reset.Inv

/-- From R48 and the rules it cites: every step of the machine keeps the invariant, in every state that meets it, reached or
not. -/
def Obligations.StepKeepsTheInvariant : Prop :=
  ∀ s t : State, s.Inv → step s = .next t → t.Inv

/-- From R140 ("Inside the block the case cannot arise"): in every state that meets the invariant the step answers a next
state, whatever event comes. -/
def Obligations.StepNeverRefuses : Prop :=
  ∀ s : State, s.Inv → ∃ t : State, step s = .next t

/-- From R107, R147, R161: what leaves the block is valid: a step from a state that meets the invariant adds to what was
sent at most one frame, on at most one link, and that frame is valid. -/
def Obligations.SentFramesAreValid : Prop :=
  ∀ s t : State, s.Inv → step s = .next t →
    (t.env.outputs = s.env.outputs ∨ ∃ o : Output, t.env.outputs = o :: s.env.outputs ∧
      ∀ (L : Link) (f : Frame), o = .tx L f → frameValid f = true)

/-- From R209 and R241: while a target is pending and no key is held, the control loop never just waits: every step keeps
this, in every state that has it, and the reset state has it. -/
def Obligations.PursuitStaysAwake : Prop :=
  State.reset.PursuitAwake ∧ ∀ s t : State, s.PursuitAwake → step s = .next t → t.PursuitAwake

/-- From R314: the reset state is quiet (no target, no key, both queues empty, no write under way); from any quiet state an
event that brings neither a byte nor a target transmits nothing on either link and leaves the block quiet; so after reset a run
of such events transmits nothing. -/
def Obligations.NothingIsSentSpontaneously : Prop :=
  State.reset.Quiet ∧
  (∀ (e : Event) (s t : State), s.Quiet → bringsNothing e = true → act e s = .next t →
    t.Quiet ∧ t.sent .desk = s.sent .desk ∧ t.sent .panel = s.sent .panel) ∧
  (∀ (events : List Event) (t : State), events.all bringsNothing = true → runEvents events State.reset = .next t →
    t.sent .desk = [] ∧ t.sent .panel = [])

/-- From R66 and R77: desk messages reach the panel link in the order the desk link reader decoded them, none lost,
duplicated or reordered: in a state that meets the invariant, a step other than `RESET` leaves the stream (sent, being sent,
queued) as it was, or, at an `RX_BYTE` of the desk link, appends the frame of one message. 'None duplicated' rests on
`RELAY_TIMES` being 1 (notes/assumptions/9.md, DESIGN CHOICE). 'None lost' speaks from the queue on: that a decoded message
enters `d2p_q` is `DeskFramesAreRelayed`. -/
def Obligations.PanelReceivesInOrder : Prop :=
  ∀ (e : Event) (s t : State), s.Inv → e ≠ .reset → act e s = .next t →
    t.panelStream = s.panelStream ∨
    ∃ (b : Byte) (m : D2P) (f : Frame), e = .rxByte .desk b ∧ encD2P m = some f ∧ t.d2pQ = s.d2pQ ++ [m] ∧
      t.panelStream = s.panelStream ++ [f]
end

