-- ==== Sys2Proof/Laws/Codec.lean ====
section
/-! SUPPORT. Lemmas of the codec: the height field, the decoder of a link, the frames the encoders build. -/
namespace Sys2Proof

theorem frameValid_iff (f : Frame) :
    frameValid f = true ↔
      f.b0 = Config.startByte ∧ f.b6 = Config.endByte ∧ f.b5 = checksum f.b1 f.b2 f.b3 f.b4 := by
  simp [frameValid, and_assoc]

/-- Once everything a link's decoder can accept (R107, R179). -/
theorem decodeFrame_ok_iff (L : Link) (f : Frame) (i : Instr) :
    decodeFrame L f = .ok i ↔ frameValid f = true ∧ instrOfFrame L f = i := by
  rw [frameValid_iff]
  unfold decodeFrame
  split
  · simp_all
  split
  · simp_all
  split
  · simp_all
  · simp_all

theorem decodeFrame_of_valid (L : Link) (f : Frame) (h : frameValid f = true) :
    decodeFrame L f = .ok (instrOfFrame L f) := (decodeFrame_ok_iff L f _).2 ⟨h, rfl⟩

/-- Once everything a link's decoder can reject (R107). -/
theorem decodeFrame_error_iff (L : Link) (f : Frame) :
    (∃ e, decodeFrame L f = .error e) ↔ frameValid f = false := by
  cases hv : frameValid f
  · simp only [iff_true]
    cases hd : decodeFrame L f with
    | error e => exact ⟨e, rfl⟩
    | ok i => rw [((decodeFrame_ok_iff L f i).1 hd).1] at hv; cases hv
  · simp [decodeFrame_of_valid L f hv]

/-- The height field cannot overflow its register (R164 (3)). -/
theorem heightOfField_toNat (offset : Nat) (msb lsb : Byte) (h : offset ≤ 650) :
    (heightOfField offset msb lsb).toNat = offset + 256 * msb.toNat + lsb.toNat := by
  have := msb.isLt
  have := lsb.isLt
  simp only [heightOfField, BitVec.toNat_ofNat]
  omega

theorem fieldMsb_toNat (net : Nat) (h : net ≤ 65535) : (fieldMsb net).toNat = net / 256 := by
  simp only [fieldMsb, BitVec.toNat_ofNat]
  omega

theorem fieldLsb_toNat (net : Nat) : (fieldLsb net).toNat = net % 256 := by
  simp only [fieldLsb, BitVec.toNat_ofNat]
  omega

theorem presetInRange_iff (h : Mm) : presetInRange h = true ↔ h.toNat ≤ 65535 := by simp [presetInRange]

theorem heightInRange_iff (h : Mm) : heightInRange h = true ↔ 650 ≤ h.toNat ∧ h.toNat ≤ 66185 := by
  simp [heightInRange]

theorem encPreset_some_iff (key : Byte) (h : Mm) (f : Frame) :
    encPreset key h = some f ↔ h.toNat ≤ 65535 ∧ f = knownFrame key (fieldLsb h.toNat) (fieldMsb h.toNat) := by
  unfold encPreset
  split
  · next hr =>
    rw [presetInRange_iff] at hr
    exact ⟨fun he => ⟨hr, (Option.some.inj he).symm⟩, fun he => congrArg some he.2.symm⟩
  · next hr =>
    rw [presetInRange_iff] at hr
    exact ⟨fun he => (nomatch he), fun he => absurd he.1 hr⟩

theorem encHeight_some_iff (h : Mm) (f : Frame) :
    encHeight h = some f ↔ 650 ≤ h.toNat ∧ h.toNat ≤ 66185 ∧
      f = knownFrame 0x00 (fieldMsb (h.toNat - 650)) (fieldLsb (h.toNat - 650)) := by
  unfold encHeight
  split
  · next hr =>
    rw [heightInRange_iff] at hr
    exact ⟨fun he => ⟨hr.1, hr.2, (Option.some.inj he).symm⟩, fun he => congrArg some he.2.2.symm⟩
  · next hr =>
    rw [heightInRange_iff] at hr
    exact ⟨fun he => (nomatch he), fun he => absurd ⟨he.1, he.2.1⟩ hr⟩

@[simp] theorem frameValid_knownFrame (key b3 b4 : Byte) : frameValid (knownFrame key b3 b4) = true := by
  simp [frameValid, knownFrame]

@[simp] theorem instr_link_p2d (m : P2D) : m.instr.link = .panel := by cases m <;> rfl

@[simp] theorem instr_link_d2p (m : D2P) : m.instr.link = .desk := by cases m <;> rfl

@[simp] theorem encode_p2d (m : P2D) : encode m.instr = encP2D m := by cases m <;> rfl

@[simp] theorem encode_d2p (m : D2P) : encode m.instr = encD2P m := by cases m <;> rfl

/-- Every instruction is the reception of one message. -/
theorem instr_cases (i : Instr) : (∃ m : D2P, i = m.instr) ∨ (∃ m : P2D, i = m.instr) := by
  cases i with
  | height h => exact .inl ⟨.height h, rfl⟩
  | unknownD a b c d k => exact .inl ⟨.unknownD a b c d k, rfl⟩
  | up => exact .inr ⟨.up, rfl⟩
  | down => exact .inr ⟨.down, rfl⟩
  | noKey => exact .inr ⟨.noKey, rfl⟩
  | presetOne h => exact .inr ⟨.presetOne h, rfl⟩
  | presetTwo h => exact .inr ⟨.presetTwo h, rfl⟩
  | presetThree h => exact .inr ⟨.presetThree h, rfl⟩
  | unknownP a b c d k => exact .inr ⟨.unknownP a b c d k, rfl⟩

@[simp] theorem instrOfFrame_desk (f : Frame) : instrOfFrame .desk f = (decD2P f).instr := rfl

@[simp] theorem instrOfFrame_panel (f : Frame) : instrOfFrame .panel f = (decP2D f).instr := rfl

end Sys2Proof
end

