-- ==== Sys2Proof/Laws/Flags.lean ====
section
/-! SUPPORT. What each test of Machine/Flags.lean says, in arithmetic. -/
namespace Sys2Proof.Machine

@[simp] theorem below_iff (cur t : Mm) : below cur t = true ↔ cur.toNat + 5 < t.toNat := by
  simp only [below, decide_eq_true_eq]
  rfl

@[simp] theorem above_iff (cur t : Mm) : above cur t = true ↔ t.toNat + 5 < cur.toNat := by
  simp only [above, decide_eq_true_eq]
  rfl

@[simp] theorem within_iff (cur t : Mm) :
    within cur t = true ↔ t.toNat ≤ cur.toNat + 5 ∧ cur.toNat ≤ t.toNat + 5 := by
  simp only [within, Bool.and_eq_true, decide_eq_true_eq]
  rfl

@[simp] theorem isMovement_iff (m : P2D) : isMovement m = true ↔ m = .up ∨ m = .down := by
  cases m <;> simp [isMovement]

@[simp] theorem outOfRange_iff (h : Nat) : outOfRange h = true ↔ h < 650 ∨ 1295 < h := by
  simp only [outOfRange, Bool.or_eq_true, decide_eq_true_eq]
  rfl

@[simp] theorem notMultiple_iff (h : Nat) : notMultiple h = true ↔ h % 5 ≠ 0 := by
  simp only [notMultiple, bne_iff_ne]
  rfl

@[simp] theorem debounceExpired_iff (s : State) : s.debounceExpired = true ↔ 1000 ≤ s.debTimer.toNat := by
  simp only [State.debounceExpired, decide_eq_true_eq]
  rfl

@[simp] theorem idleExpired_iff (s : State) : s.idleExpired = true ↔ 10000 ≤ s.idleTimer.toNat := by
  simp only [State.idleExpired, decide_eq_true_eq]
  rfl

end Sys2Proof.Machine
end

