-- ==== Sys2Proof/Laws/State.lean ====
section
/-! SUPPORT. One lemma per field per named update of the state, so that no proof unfolds an update. -/
namespace Sys2Proof.Machine

/-! ### Per-agent values -/

@[simp] theorem PerAgent.get_set_same {α : Type} (p : PerAgent α) (A : Agent) (v : α) : (p.set A v).get A = v := by
  cases A <;> rfl

@[simp] theorem PerAgent.get_set_other {α : Type} (p : PerAgent α) {A B : Agent} (v : α) (h : B ≠ A) :
    (p.set A v).get B = p.get B := by
  cases A <;> cases B <;> first | rfl | exact absurd rfl h

theorem PerAgent.get_set {α : Type} (p : PerAgent α) (A B : Agent) (v : α) :
    (p.set A v).get B = if B = A then v else p.get B := by
  cases A <;> cases B <;> rfl

@[simp] theorem PerAgent.get_all {α : Type} (v : α) (A : Agent) : (PerAgent.all v).get A = v := by
  cases A <;> rfl

/-! ### `setLink` -/

@[simp] theorem link_setLink_same (L : Link) (l : LinkState) (s : State) : (s.setLink L l).link L = l := by
  cases L <;> rfl

@[simp] theorem link_setLink_other {L M : Link} (l : LinkState) (s : State) (h : M ≠ L) :
    (s.setLink L l).link M = s.link M := by
  cases L <;> cases M <;> first | rfl | exact absurd rfl h

theorem link_setLink (L M : Link) (l : LinkState) (s : State) :
    (s.setLink L l).link M = if M = L then l else s.link M := by
  cases L <;> cases M <;> rfl

@[simp] theorem setLink_setLink (L : Link) (l k : LinkState) (s : State) :
    (s.setLink L l).setLink L k = s.setLink L k := by cases L <;> rfl

@[simp] theorem setLink_link (L : Link) (s : State) : s.setLink L (s.link L) = s := by cases L <;> rfl

@[simp] theorem setLink_currentHeight (L : Link) (l : LinkState) (s : State) : (s.setLink L l).currentHeight = s.currentHeight := by
  cases L <;> rfl

@[simp] theorem setLink_targetHeight (L : Link) (l : LinkState) (s : State) : (s.setLink L l).targetHeight = s.targetHeight := by
  cases L <;> rfl

@[simp] theorem setLink_currentPanelKey (L : Link) (l : LinkState) (s : State) : (s.setLink L l).currentPanelKey = s.currentPanelKey := by
  cases L <;> rfl

@[simp] theorem setLink_wake (L : Link) (l : LinkState) (s : State) : (s.setLink L l).wake = s.wake := by
  cases L <;> rfl

@[simp] theorem setLink_shutdown (L : Link) (l : LinkState) (s : State) : (s.setLink L l).shutdown = s.shutdown := by
  cases L <;> rfl

@[simp] theorem setLink_debTimer (L : Link) (l : LinkState) (s : State) : (s.setLink L l).debTimer = s.debTimer := by
  cases L <;> rfl

@[simp] theorem setLink_panelQ (L : Link) (l : LinkState) (s : State) : (s.setLink L l).panelQ = s.panelQ := by
  cases L <;> rfl

@[simp] theorem setLink_d2pQ (L : Link) (l : LinkState) (s : State) : (s.setLink L l).d2pQ = s.d2pQ := by
  cases L <;> rfl

@[simp] theorem setLink_idleTimer (L : Link) (l : LinkState) (s : State) : (s.setLink L l).idleTimer = s.idleTimer := by
  cases L <;> rfl

@[simp] theorem setLink_txFrame (L : Link) (l : LinkState) (s : State) : (s.setLink L l).txFrame = s.txFrame := by
  cases L <;> rfl

@[simp] theorem setLink_txRemaining (L : Link) (l : LinkState) (s : State) : (s.setLink L l).txRemaining = s.txRemaining := by
  cases L <;> rfl

@[simp] theorem setLink_txClears (L : Link) (l : LinkState) (s : State) : (s.setLink L l).txClears = s.txClears := by
  cases L <;> rfl

@[simp] theorem setLink_txResignal (L : Link) (l : LinkState) (s : State) : (s.setLink L l).txResignal = s.txResignal := by
  cases L <;> rfl

@[simp] theorem setLink_clState (L : Link) (l : LinkState) (s : State) : (s.setLink L l).clState = s.clState := by
  cases L <;> rfl

@[simp] theorem setLink_txGap (L : Link) (l : LinkState) (s : State) : (s.setLink L l).txGap = s.txGap := by
  cases L <;> rfl

@[simp] theorem setLink_pwState (L : Link) (l : LinkState) (s : State) : (s.setLink L l).pwState = s.pwState := by
  cases L <;> rfl

@[simp] theorem setLink_pwFrame (L : Link) (l : LinkState) (s : State) : (s.setLink L l).pwFrame = s.pwFrame := by
  cases L <;> rfl

@[simp] theorem setLink_pwRemaining (L : Link) (l : LinkState) (s : State) : (s.setLink L l).pwRemaining = s.pwRemaining := by
  cases L <;> rfl

@[simp] theorem setLink_pwGap (L : Link) (l : LinkState) (s : State) : (s.setLink L l).pwGap = s.pwGap := by
  cases L <;> rfl

@[simp] theorem setLink_run (L : Link) (l : LinkState) (s : State) : (s.setLink L l).run = s.run := by
  cases L <;> rfl

@[simp] theorem setLink_cause (L : Link) (l : LinkState) (s : State) : (s.setLink L l).cause = s.cause := by
  cases L <;> rfl

@[simp] theorem setLink_env (L : Link) (l : LinkState) (s : State) : (s.setLink L l).env = s.env := by
  cases L <;> rfl

/-! ### `halt` -/

@[simp] theorem halt_desk (A : Agent) (s : State) : (s.halt A).desk = s.desk := rfl

@[simp] theorem halt_panel (A : Agent) (s : State) : (s.halt A).panel = s.panel := rfl

@[simp] theorem halt_currentHeight (A : Agent) (s : State) : (s.halt A).currentHeight = s.currentHeight := rfl

@[simp] theorem halt_targetHeight (A : Agent) (s : State) : (s.halt A).targetHeight = s.targetHeight := rfl

@[simp] theorem halt_currentPanelKey (A : Agent) (s : State) : (s.halt A).currentPanelKey = s.currentPanelKey := rfl

@[simp] theorem halt_wake (A : Agent) (s : State) : (s.halt A).wake = s.wake := rfl

@[simp] theorem halt_shutdown (A : Agent) (s : State) : (s.halt A).shutdown = s.shutdown := rfl

@[simp] theorem halt_debTimer (A : Agent) (s : State) : (s.halt A).debTimer = s.debTimer := rfl

@[simp] theorem halt_panelQ (A : Agent) (s : State) : (s.halt A).panelQ = s.panelQ := rfl

@[simp] theorem halt_d2pQ (A : Agent) (s : State) : (s.halt A).d2pQ = s.d2pQ := rfl

@[simp] theorem halt_idleTimer (A : Agent) (s : State) : (s.halt A).idleTimer = s.idleTimer := rfl

@[simp] theorem halt_txFrame (A : Agent) (s : State) : (s.halt A).txFrame = s.txFrame := rfl

@[simp] theorem halt_txRemaining (A : Agent) (s : State) : (s.halt A).txRemaining = s.txRemaining := rfl

@[simp] theorem halt_txClears (A : Agent) (s : State) : (s.halt A).txClears = s.txClears := rfl

@[simp] theorem halt_txResignal (A : Agent) (s : State) : (s.halt A).txResignal = s.txResignal := rfl

@[simp] theorem halt_clState (A : Agent) (s : State) : (s.halt A).clState = s.clState := rfl

@[simp] theorem halt_txGap (A : Agent) (s : State) : (s.halt A).txGap = s.txGap := rfl

@[simp] theorem halt_pwState (A : Agent) (s : State) : (s.halt A).pwState = s.pwState := rfl

@[simp] theorem halt_pwFrame (A : Agent) (s : State) : (s.halt A).pwFrame = s.pwFrame := rfl

@[simp] theorem halt_pwRemaining (A : Agent) (s : State) : (s.halt A).pwRemaining = s.pwRemaining := rfl

@[simp] theorem halt_pwGap (A : Agent) (s : State) : (s.halt A).pwGap = s.pwGap := rfl

@[simp] theorem halt_run (A : Agent) (s : State) : (s.halt A).run = s.run.set A .halted := rfl

@[simp] theorem halt_cause (A : Agent) (s : State) : (s.halt A).cause = s.cause := rfl

@[simp] theorem halt_env (A : Agent) (s : State) : (s.halt A).env = s.env := rfl

@[simp] theorem halt_link (A : Agent) (s : State) (L : Link) : (s.halt A).link L = s.link L := rfl

/-! ### `raise` -/

@[simp] theorem raise_desk (A : Agent) (c : Cause) (s : State) : (s.raise A c).desk = s.desk := rfl

@[simp] theorem raise_panel (A : Agent) (c : Cause) (s : State) : (s.raise A c).panel = s.panel := rfl

@[simp] theorem raise_currentHeight (A : Agent) (c : Cause) (s : State) : (s.raise A c).currentHeight = s.currentHeight := rfl

@[simp] theorem raise_targetHeight (A : Agent) (c : Cause) (s : State) : (s.raise A c).targetHeight = s.targetHeight := rfl

@[simp] theorem raise_currentPanelKey (A : Agent) (c : Cause) (s : State) : (s.raise A c).currentPanelKey = s.currentPanelKey := rfl

@[simp] theorem raise_wake (A : Agent) (c : Cause) (s : State) : (s.raise A c).wake = s.wake := rfl

@[simp] theorem raise_shutdown (A : Agent) (c : Cause) (s : State) : (s.raise A c).shutdown = s.shutdown := rfl

@[simp] theorem raise_debTimer (A : Agent) (c : Cause) (s : State) : (s.raise A c).debTimer = s.debTimer := rfl

@[simp] theorem raise_panelQ (A : Agent) (c : Cause) (s : State) : (s.raise A c).panelQ = s.panelQ := rfl

@[simp] theorem raise_d2pQ (A : Agent) (c : Cause) (s : State) : (s.raise A c).d2pQ = s.d2pQ := rfl

@[simp] theorem raise_idleTimer (A : Agent) (c : Cause) (s : State) : (s.raise A c).idleTimer = s.idleTimer := rfl

@[simp] theorem raise_txFrame (A : Agent) (c : Cause) (s : State) : (s.raise A c).txFrame = s.txFrame := rfl

@[simp] theorem raise_txRemaining (A : Agent) (c : Cause) (s : State) : (s.raise A c).txRemaining = s.txRemaining := rfl

@[simp] theorem raise_txClears (A : Agent) (c : Cause) (s : State) : (s.raise A c).txClears = s.txClears := rfl

@[simp] theorem raise_txResignal (A : Agent) (c : Cause) (s : State) : (s.raise A c).txResignal = s.txResignal := rfl

@[simp] theorem raise_clState (A : Agent) (c : Cause) (s : State) : (s.raise A c).clState = s.clState := rfl

@[simp] theorem raise_txGap (A : Agent) (c : Cause) (s : State) : (s.raise A c).txGap = s.txGap := rfl

@[simp] theorem raise_pwState (A : Agent) (c : Cause) (s : State) : (s.raise A c).pwState = s.pwState := rfl

@[simp] theorem raise_pwFrame (A : Agent) (c : Cause) (s : State) : (s.raise A c).pwFrame = s.pwFrame := rfl

@[simp] theorem raise_pwRemaining (A : Agent) (c : Cause) (s : State) : (s.raise A c).pwRemaining = s.pwRemaining := rfl

@[simp] theorem raise_pwGap (A : Agent) (c : Cause) (s : State) : (s.raise A c).pwGap = s.pwGap := rfl

@[simp] theorem raise_run (A : Agent) (c : Cause) (s : State) : (s.raise A c).run = s.run.set A .faulted := rfl

@[simp] theorem raise_cause (A : Agent) (c : Cause) (s : State) : (s.raise A c).cause = s.cause.set A c := rfl

@[simp] theorem raise_env (A : Agent) (c : Cause) (s : State) : (s.raise A c).env = s.env := rfl

@[simp] theorem raise_link (A : Agent) (c : Cause) (s : State) (L : Link) : (s.raise A c).link L = s.link L := rfl

/-! ### `emit` -/

@[simp] theorem emit_desk (o : Output) (s : State) : (s.emit o).desk = s.desk := rfl

@[simp] theorem emit_panel (o : Output) (s : State) : (s.emit o).panel = s.panel := rfl

@[simp] theorem emit_currentHeight (o : Output) (s : State) : (s.emit o).currentHeight = s.currentHeight := rfl

@[simp] theorem emit_targetHeight (o : Output) (s : State) : (s.emit o).targetHeight = s.targetHeight := rfl

@[simp] theorem emit_currentPanelKey (o : Output) (s : State) : (s.emit o).currentPanelKey = s.currentPanelKey := rfl

@[simp] theorem emit_wake (o : Output) (s : State) : (s.emit o).wake = s.wake := rfl

@[simp] theorem emit_shutdown (o : Output) (s : State) : (s.emit o).shutdown = s.shutdown := rfl

@[simp] theorem emit_debTimer (o : Output) (s : State) : (s.emit o).debTimer = s.debTimer := rfl

@[simp] theorem emit_panelQ (o : Output) (s : State) : (s.emit o).panelQ = s.panelQ := rfl

@[simp] theorem emit_d2pQ (o : Output) (s : State) : (s.emit o).d2pQ = s.d2pQ := rfl

@[simp] theorem emit_idleTimer (o : Output) (s : State) : (s.emit o).idleTimer = s.idleTimer := rfl

@[simp] theorem emit_txFrame (o : Output) (s : State) : (s.emit o).txFrame = s.txFrame := rfl

@[simp] theorem emit_txRemaining (o : Output) (s : State) : (s.emit o).txRemaining = s.txRemaining := rfl

@[simp] theorem emit_txClears (o : Output) (s : State) : (s.emit o).txClears = s.txClears := rfl

@[simp] theorem emit_txResignal (o : Output) (s : State) : (s.emit o).txResignal = s.txResignal := rfl

@[simp] theorem emit_clState (o : Output) (s : State) : (s.emit o).clState = s.clState := rfl

@[simp] theorem emit_txGap (o : Output) (s : State) : (s.emit o).txGap = s.txGap := rfl

@[simp] theorem emit_pwState (o : Output) (s : State) : (s.emit o).pwState = s.pwState := rfl

@[simp] theorem emit_pwFrame (o : Output) (s : State) : (s.emit o).pwFrame = s.pwFrame := rfl

@[simp] theorem emit_pwRemaining (o : Output) (s : State) : (s.emit o).pwRemaining = s.pwRemaining := rfl

@[simp] theorem emit_pwGap (o : Output) (s : State) : (s.emit o).pwGap = s.pwGap := rfl

@[simp] theorem emit_run (o : Output) (s : State) : (s.emit o).run = s.run := rfl

@[simp] theorem emit_cause (o : Output) (s : State) : (s.emit o).cause = s.cause := rfl

@[simp] theorem emit_env (o : Output) (s : State) : (s.emit o).env = { s.env with outputs := o :: s.env.outputs } := rfl

@[simp] theorem emit_link (o : Output) (s : State) (L : Link) : (s.emit o).link L = s.link L := rfl

/-! ### `withPending` -/

@[simp] theorem withPending_desk (p : List Event) (s : State) : (s.withPending p).desk = s.desk := rfl

@[simp] theorem withPending_panel (p : List Event) (s : State) : (s.withPending p).panel = s.panel := rfl

@[simp] theorem withPending_currentHeight (p : List Event) (s : State) : (s.withPending p).currentHeight = s.currentHeight := rfl

@[simp] theorem withPending_targetHeight (p : List Event) (s : State) : (s.withPending p).targetHeight = s.targetHeight := rfl

@[simp] theorem withPending_currentPanelKey (p : List Event) (s : State) : (s.withPending p).currentPanelKey = s.currentPanelKey := rfl

@[simp] theorem withPending_wake (p : List Event) (s : State) : (s.withPending p).wake = s.wake := rfl

@[simp] theorem withPending_shutdown (p : List Event) (s : State) : (s.withPending p).shutdown = s.shutdown := rfl

@[simp] theorem withPending_debTimer (p : List Event) (s : State) : (s.withPending p).debTimer = s.debTimer := rfl

@[simp] theorem withPending_panelQ (p : List Event) (s : State) : (s.withPending p).panelQ = s.panelQ := rfl

@[simp] theorem withPending_d2pQ (p : List Event) (s : State) : (s.withPending p).d2pQ = s.d2pQ := rfl

@[simp] theorem withPending_idleTimer (p : List Event) (s : State) : (s.withPending p).idleTimer = s.idleTimer := rfl

@[simp] theorem withPending_txFrame (p : List Event) (s : State) : (s.withPending p).txFrame = s.txFrame := rfl

@[simp] theorem withPending_txRemaining (p : List Event) (s : State) : (s.withPending p).txRemaining = s.txRemaining := rfl

@[simp] theorem withPending_txClears (p : List Event) (s : State) : (s.withPending p).txClears = s.txClears := rfl

@[simp] theorem withPending_txResignal (p : List Event) (s : State) : (s.withPending p).txResignal = s.txResignal := rfl

@[simp] theorem withPending_clState (p : List Event) (s : State) : (s.withPending p).clState = s.clState := rfl

@[simp] theorem withPending_txGap (p : List Event) (s : State) : (s.withPending p).txGap = s.txGap := rfl

@[simp] theorem withPending_pwState (p : List Event) (s : State) : (s.withPending p).pwState = s.pwState := rfl

@[simp] theorem withPending_pwFrame (p : List Event) (s : State) : (s.withPending p).pwFrame = s.pwFrame := rfl

@[simp] theorem withPending_pwRemaining (p : List Event) (s : State) : (s.withPending p).pwRemaining = s.pwRemaining := rfl

@[simp] theorem withPending_pwGap (p : List Event) (s : State) : (s.withPending p).pwGap = s.pwGap := rfl

@[simp] theorem withPending_run (p : List Event) (s : State) : (s.withPending p).run = s.run := rfl

@[simp] theorem withPending_cause (p : List Event) (s : State) : (s.withPending p).cause = s.cause := rfl

@[simp] theorem withPending_env (p : List Event) (s : State) : (s.withPending p).env = { s.env with pending := p } := rfl

@[simp] theorem withPending_link (p : List Event) (s : State) (L : Link) : (s.withPending p).link L = s.link L := rfl

/-! ### `resetBlock` -/

@[simp] theorem resetBlock_env (s : State) : s.resetBlock.env = s.env := rfl

theorem resetBlock_eq (s : State) : s.resetBlock = { State.reset with env := s.env } := rfl

/-! ### `eventTaken` -/

@[simp] theorem eventTaken_desk (s : State) : s.eventTaken.desk = s.desk := by
  unfold State.eventTaken; split <;> rfl

@[simp] theorem eventTaken_panel (s : State) : s.eventTaken.panel = s.panel := by
  unfold State.eventTaken; split <;> rfl

@[simp] theorem eventTaken_currentHeight (s : State) : s.eventTaken.currentHeight = s.currentHeight := by
  unfold State.eventTaken; split <;> rfl

@[simp] theorem eventTaken_targetHeight (s : State) : s.eventTaken.targetHeight = s.targetHeight := by
  unfold State.eventTaken; split <;> rfl

@[simp] theorem eventTaken_currentPanelKey (s : State) : s.eventTaken.currentPanelKey = s.currentPanelKey := by
  unfold State.eventTaken; split <;> rfl

@[simp] theorem eventTaken_wake (s : State) : s.eventTaken.wake = s.wake := by
  unfold State.eventTaken; split <;> rfl

@[simp] theorem eventTaken_shutdown (s : State) : s.eventTaken.shutdown = s.shutdown := by
  unfold State.eventTaken; split <;> rfl

@[simp] theorem eventTaken_debTimer (s : State) : s.eventTaken.debTimer = s.debTimer := by
  unfold State.eventTaken; split <;> rfl

@[simp] theorem eventTaken_panelQ (s : State) : s.eventTaken.panelQ = s.panelQ := by
  unfold State.eventTaken; split <;> rfl

@[simp] theorem eventTaken_d2pQ (s : State) : s.eventTaken.d2pQ = s.d2pQ := by
  unfold State.eventTaken; split <;> rfl

@[simp] theorem eventTaken_idleTimer (s : State) : s.eventTaken.idleTimer = s.idleTimer := by
  unfold State.eventTaken; split <;> rfl

@[simp] theorem eventTaken_txFrame (s : State) : s.eventTaken.txFrame = s.txFrame := by
  unfold State.eventTaken; split <;> rfl

@[simp] theorem eventTaken_txRemaining (s : State) : s.eventTaken.txRemaining = s.txRemaining := by
  unfold State.eventTaken; split <;> rfl

@[simp] theorem eventTaken_txClears (s : State) : s.eventTaken.txClears = s.txClears := by
  unfold State.eventTaken; split <;> rfl

@[simp] theorem eventTaken_txResignal (s : State) : s.eventTaken.txResignal = s.txResignal := by
  unfold State.eventTaken; split <;> rfl

@[simp] theorem eventTaken_clState (s : State) : s.eventTaken.clState = s.clState := by
  unfold State.eventTaken; split <;> rfl

@[simp] theorem eventTaken_txGap (s : State) : s.eventTaken.txGap = s.txGap := by
  unfold State.eventTaken; split <;> rfl

@[simp] theorem eventTaken_pwState (s : State) : s.eventTaken.pwState = s.pwState := by
  unfold State.eventTaken; split <;> rfl

@[simp] theorem eventTaken_pwFrame (s : State) : s.eventTaken.pwFrame = s.pwFrame := by
  unfold State.eventTaken; split <;> rfl

@[simp] theorem eventTaken_pwRemaining (s : State) : s.eventTaken.pwRemaining = s.pwRemaining := by
  unfold State.eventTaken; split <;> rfl

@[simp] theorem eventTaken_pwGap (s : State) : s.eventTaken.pwGap = s.pwGap := by
  unfold State.eventTaken; split <;> rfl

@[simp] theorem eventTaken_run (s : State) : s.eventTaken.run = s.run := by
  unfold State.eventTaken; split <;> rfl

@[simp] theorem eventTaken_cause (s : State) : s.eventTaken.cause = s.cause := by
  unfold State.eventTaken; split <;> rfl

@[simp] theorem eventTaken_link (s : State) (L : Link) : s.eventTaken.link L = s.link L := by
  cases L <;> simp [State.link]

@[simp] theorem eventTaken_outputs (s : State) : s.eventTaken.env.outputs = s.env.outputs := by
  unfold State.eventTaken; split <;> rfl

/-! ### `isRunning` -/

theorem isRunning_iff (A : Agent) (s : State) : s.isRunning A = true ↔ s.run.get A = .running := by
  simp [State.isRunning]

@[simp] theorem isRunning_setLink (A : Agent) (L : Link) (l : LinkState) (s : State) :
    (s.setLink L l).isRunning A = s.isRunning A := by simp [State.isRunning]

@[simp] theorem isRunning_emit (A : Agent) (o : Output) (s : State) : (s.emit o).isRunning A = s.isRunning A := rfl

@[simp] theorem isRunning_withPending (A : Agent) (p : List Event) (s : State) :
    (s.withPending p).isRunning A = s.isRunning A := rfl

@[simp] theorem isRunning_eventTaken (A : Agent) (s : State) : s.eventTaken.isRunning A = s.isRunning A := by
  simp [State.isRunning]

end Sys2Proof.Machine
end

