-- ==== Sys2Proof/Laws/Updates.lean ====
section
/-! SUPPORT. One lemma per field per update that an agent's step, an evaluation or `TICK` makes. -/
namespace Sys2Proof.Machine

/-- The state an evaluation that returns a command leaves (R233). -/
def evaluated (c : Command) (f : Frame) (s : State) : State :=
  { s with idleTimer := 0, txFrame := f, txRemaining := c.repeatCount, txClears := c.clearsTarget,
           txResignal := isMovement c.message, txGap := 0, clState := .writing }

/-! ### `panelTransmit` (R202) -/

@[simp] theorem panelTransmit_desk (s : State) : (panelTransmit s).desk = s.desk := rfl

@[simp] theorem panelTransmit_panel (s : State) : (panelTransmit s).panel = s.panel := rfl

@[simp] theorem panelTransmit_currentHeight (s : State) : (panelTransmit s).currentHeight = s.currentHeight := rfl

@[simp] theorem panelTransmit_targetHeight (s : State) : (panelTransmit s).targetHeight = s.targetHeight := rfl

@[simp] theorem panelTransmit_currentPanelKey (s : State) : (panelTransmit s).currentPanelKey = s.currentPanelKey := rfl

@[simp] theorem panelTransmit_wake (s : State) : (panelTransmit s).wake = s.wake := rfl

@[simp] theorem panelTransmit_shutdown (s : State) : (panelTransmit s).shutdown = s.shutdown := rfl

@[simp] theorem panelTransmit_debTimer (s : State) : (panelTransmit s).debTimer = s.debTimer := rfl

@[simp] theorem panelTransmit_panelQ (s : State) : (panelTransmit s).panelQ = s.panelQ := rfl

@[simp] theorem panelTransmit_d2pQ (s : State) : (panelTransmit s).d2pQ = s.d2pQ := rfl

@[simp] theorem panelTransmit_idleTimer (s : State) : (panelTransmit s).idleTimer = s.idleTimer := rfl

@[simp] theorem panelTransmit_txFrame (s : State) : (panelTransmit s).txFrame = s.txFrame := rfl

@[simp] theorem panelTransmit_txRemaining (s : State) : (panelTransmit s).txRemaining = s.txRemaining := rfl

@[simp] theorem panelTransmit_txClears (s : State) : (panelTransmit s).txClears = s.txClears := rfl

@[simp] theorem panelTransmit_txResignal (s : State) : (panelTransmit s).txResignal = s.txResignal := rfl

@[simp] theorem panelTransmit_clState (s : State) : (panelTransmit s).clState = s.clState := rfl

@[simp] theorem panelTransmit_txGap (s : State) : (panelTransmit s).txGap = s.txGap := rfl

@[simp] theorem panelTransmit_pwState (s : State) : (panelTransmit s).pwState = s.pwState := rfl

@[simp] theorem panelTransmit_pwFrame (s : State) : (panelTransmit s).pwFrame = s.pwFrame := rfl

@[simp] theorem panelTransmit_pwRemaining (s : State) : (panelTransmit s).pwRemaining = s.pwRemaining - 1 := rfl

@[simp] theorem panelTransmit_pwGap (s : State) : (panelTransmit s).pwGap = Config.tFrame := rfl

@[simp] theorem panelTransmit_run (s : State) : (panelTransmit s).run = s.run := rfl

@[simp] theorem panelTransmit_cause (s : State) : (panelTransmit s).cause = s.cause := rfl

@[simp] theorem panelTransmit_env (s : State) : (panelTransmit s).env = { s.env with outputs := .tx .panel s.pwFrame :: s.env.outputs } := rfl

@[simp] theorem panelTransmit_link (s : State) (L : Link) : (panelTransmit s).link L = s.link L := rfl

/-! ### `panelComplete` (R203) -/

@[simp] theorem panelComplete_desk (s : State) : (panelComplete s).desk = s.desk := rfl

@[simp] theorem panelComplete_panel (s : State) : (panelComplete s).panel = s.panel := rfl

@[simp] theorem panelComplete_currentHeight (s : State) : (panelComplete s).currentHeight = s.currentHeight := rfl

@[simp] theorem panelComplete_targetHeight (s : State) : (panelComplete s).targetHeight = s.targetHeight := rfl

@[simp] theorem panelComplete_currentPanelKey (s : State) : (panelComplete s).currentPanelKey = s.currentPanelKey := rfl

@[simp] theorem panelComplete_wake (s : State) : (panelComplete s).wake = s.wake := rfl

@[simp] theorem panelComplete_shutdown (s : State) : (panelComplete s).shutdown = s.shutdown := rfl

@[simp] theorem panelComplete_debTimer (s : State) : (panelComplete s).debTimer = s.debTimer := rfl

@[simp] theorem panelComplete_panelQ (s : State) : (panelComplete s).panelQ = s.panelQ := rfl

@[simp] theorem panelComplete_d2pQ (s : State) : (panelComplete s).d2pQ = s.d2pQ := rfl

@[simp] theorem panelComplete_idleTimer (s : State) : (panelComplete s).idleTimer = s.idleTimer := rfl

@[simp] theorem panelComplete_txFrame (s : State) : (panelComplete s).txFrame = s.txFrame := rfl

@[simp] theorem panelComplete_txRemaining (s : State) : (panelComplete s).txRemaining = s.txRemaining := rfl

@[simp] theorem panelComplete_txClears (s : State) : (panelComplete s).txClears = s.txClears := rfl

@[simp] theorem panelComplete_txResignal (s : State) : (panelComplete s).txResignal = s.txResignal := rfl

@[simp] theorem panelComplete_clState (s : State) : (panelComplete s).clState = s.clState := rfl

@[simp] theorem panelComplete_txGap (s : State) : (panelComplete s).txGap = s.txGap := rfl

@[simp] theorem panelComplete_pwState (s : State) : (panelComplete s).pwState = .idle := rfl

@[simp] theorem panelComplete_pwFrame (s : State) : (panelComplete s).pwFrame = s.pwFrame := rfl

@[simp] theorem panelComplete_pwRemaining (s : State) : (panelComplete s).pwRemaining = s.pwRemaining := rfl

@[simp] theorem panelComplete_pwGap (s : State) : (panelComplete s).pwGap = s.pwGap := rfl

@[simp] theorem panelComplete_run (s : State) : (panelComplete s).run = s.run := rfl

@[simp] theorem panelComplete_cause (s : State) : (panelComplete s).cause = s.cause := rfl

@[simp] theorem panelComplete_env (s : State) : (panelComplete s).env = s.env := rfl

@[simp] theorem panelComplete_link (s : State) (L : Link) : (panelComplete s).link L = s.link L := rfl

/-! ### `debounceTake` (R205) -/

@[simp] theorem debounceTake_desk (m : P2D) (rest : List P2D) (s : State) : (debounceTake m rest s).desk = s.desk := rfl

@[simp] theorem debounceTake_panel (m : P2D) (rest : List P2D) (s : State) : (debounceTake m rest s).panel = s.panel := rfl

@[simp] theorem debounceTake_currentHeight (m : P2D) (rest : List P2D) (s : State) : (debounceTake m rest s).currentHeight = s.currentHeight := rfl

@[simp] theorem debounceTake_targetHeight (m : P2D) (rest : List P2D) (s : State) : (debounceTake m rest s).targetHeight = s.targetHeight := rfl

@[simp] theorem debounceTake_currentPanelKey (m : P2D) (rest : List P2D) (s : State) : (debounceTake m rest s).currentPanelKey = some m := rfl

@[simp] theorem debounceTake_wake (m : P2D) (rest : List P2D) (s : State) : (debounceTake m rest s).wake = true := rfl

@[simp] theorem debounceTake_shutdown (m : P2D) (rest : List P2D) (s : State) : (debounceTake m rest s).shutdown = s.shutdown := rfl

@[simp] theorem debounceTake_debTimer (m : P2D) (rest : List P2D) (s : State) : (debounceTake m rest s).debTimer = 0 := rfl

@[simp] theorem debounceTake_panelQ (m : P2D) (rest : List P2D) (s : State) : (debounceTake m rest s).panelQ = rest := rfl

@[simp] theorem debounceTake_d2pQ (m : P2D) (rest : List P2D) (s : State) : (debounceTake m rest s).d2pQ = s.d2pQ := rfl

@[simp] theorem debounceTake_idleTimer (m : P2D) (rest : List P2D) (s : State) : (debounceTake m rest s).idleTimer = s.idleTimer := rfl

@[simp] theorem debounceTake_txFrame (m : P2D) (rest : List P2D) (s : State) : (debounceTake m rest s).txFrame = s.txFrame := rfl

@[simp] theorem debounceTake_txRemaining (m : P2D) (rest : List P2D) (s : State) : (debounceTake m rest s).txRemaining = s.txRemaining := rfl

@[simp] theorem debounceTake_txClears (m : P2D) (rest : List P2D) (s : State) : (debounceTake m rest s).txClears = s.txClears := rfl

@[simp] theorem debounceTake_txResignal (m : P2D) (rest : List P2D) (s : State) : (debounceTake m rest s).txResignal = s.txResignal := rfl

@[simp] theorem debounceTake_clState (m : P2D) (rest : List P2D) (s : State) : (debounceTake m rest s).clState = s.clState := rfl

@[simp] theorem debounceTake_txGap (m : P2D) (rest : List P2D) (s : State) : (debounceTake m rest s).txGap = s.txGap := rfl

@[simp] theorem debounceTake_pwState (m : P2D) (rest : List P2D) (s : State) : (debounceTake m rest s).pwState = s.pwState := rfl

@[simp] theorem debounceTake_pwFrame (m : P2D) (rest : List P2D) (s : State) : (debounceTake m rest s).pwFrame = s.pwFrame := rfl

@[simp] theorem debounceTake_pwRemaining (m : P2D) (rest : List P2D) (s : State) : (debounceTake m rest s).pwRemaining = s.pwRemaining := rfl

@[simp] theorem debounceTake_pwGap (m : P2D) (rest : List P2D) (s : State) : (debounceTake m rest s).pwGap = s.pwGap := rfl

@[simp] theorem debounceTake_run (m : P2D) (rest : List P2D) (s : State) : (debounceTake m rest s).run = s.run := rfl

@[simp] theorem debounceTake_cause (m : P2D) (rest : List P2D) (s : State) : (debounceTake m rest s).cause = s.cause := rfl

@[simp] theorem debounceTake_env (m : P2D) (rest : List P2D) (s : State) : (debounceTake m rest s).env = s.env := rfl

@[simp] theorem debounceTake_link (m : P2D) (rest : List P2D) (s : State) (L : Link) : (debounceTake m rest s).link L = s.link L := rfl

/-! ### `debounceExpire` (R206) -/

@[simp] theorem debounceExpire_desk (s : State) : (debounceExpire s).desk = s.desk := rfl

@[simp] theorem debounceExpire_panel (s : State) : (debounceExpire s).panel = s.panel := rfl

@[simp] theorem debounceExpire_currentHeight (s : State) : (debounceExpire s).currentHeight = s.currentHeight := rfl

@[simp] theorem debounceExpire_targetHeight (s : State) : (debounceExpire s).targetHeight = s.targetHeight := rfl

@[simp] theorem debounceExpire_currentPanelKey (s : State) : (debounceExpire s).currentPanelKey = none := rfl

@[simp] theorem debounceExpire_wake (s : State) : (debounceExpire s).wake = true := rfl

@[simp] theorem debounceExpire_shutdown (s : State) : (debounceExpire s).shutdown = s.shutdown := rfl

@[simp] theorem debounceExpire_debTimer (s : State) : (debounceExpire s).debTimer = 0 := rfl

@[simp] theorem debounceExpire_panelQ (s : State) : (debounceExpire s).panelQ = s.panelQ := rfl

@[simp] theorem debounceExpire_d2pQ (s : State) : (debounceExpire s).d2pQ = s.d2pQ := rfl

@[simp] theorem debounceExpire_idleTimer (s : State) : (debounceExpire s).idleTimer = s.idleTimer := rfl

@[simp] theorem debounceExpire_txFrame (s : State) : (debounceExpire s).txFrame = s.txFrame := rfl

@[simp] theorem debounceExpire_txRemaining (s : State) : (debounceExpire s).txRemaining = s.txRemaining := rfl

@[simp] theorem debounceExpire_txClears (s : State) : (debounceExpire s).txClears = s.txClears := rfl

@[simp] theorem debounceExpire_txResignal (s : State) : (debounceExpire s).txResignal = s.txResignal := rfl

@[simp] theorem debounceExpire_clState (s : State) : (debounceExpire s).clState = s.clState := rfl

@[simp] theorem debounceExpire_txGap (s : State) : (debounceExpire s).txGap = s.txGap := rfl

@[simp] theorem debounceExpire_pwState (s : State) : (debounceExpire s).pwState = s.pwState := rfl

@[simp] theorem debounceExpire_pwFrame (s : State) : (debounceExpire s).pwFrame = s.pwFrame := rfl

@[simp] theorem debounceExpire_pwRemaining (s : State) : (debounceExpire s).pwRemaining = s.pwRemaining := rfl

@[simp] theorem debounceExpire_pwGap (s : State) : (debounceExpire s).pwGap = s.pwGap := rfl

@[simp] theorem debounceExpire_run (s : State) : (debounceExpire s).run = s.run := rfl

@[simp] theorem debounceExpire_cause (s : State) : (debounceExpire s).cause = s.cause := rfl

@[simp] theorem debounceExpire_env (s : State) : (debounceExpire s).env = s.env := rfl

@[simp] theorem debounceExpire_link (s : State) (L : Link) : (debounceExpire s).link L = s.link L := rfl

/-! ### `evaluated` (R233) -/

@[simp] theorem evaluated_desk (c : Command) (f : Frame) (s : State) : (evaluated c f s).desk = s.desk := rfl

@[simp] theorem evaluated_panel (c : Command) (f : Frame) (s : State) : (evaluated c f s).panel = s.panel := rfl

@[simp] theorem evaluated_currentHeight (c : Command) (f : Frame) (s : State) : (evaluated c f s).currentHeight = s.currentHeight := rfl

@[simp] theorem evaluated_targetHeight (c : Command) (f : Frame) (s : State) : (evaluated c f s).targetHeight = s.targetHeight := rfl

@[simp] theorem evaluated_currentPanelKey (c : Command) (f : Frame) (s : State) : (evaluated c f s).currentPanelKey = s.currentPanelKey := rfl

@[simp] theorem evaluated_wake (c : Command) (f : Frame) (s : State) : (evaluated c f s).wake = s.wake := rfl

@[simp] theorem evaluated_shutdown (c : Command) (f : Frame) (s : State) : (evaluated c f s).shutdown = s.shutdown := rfl

@[simp] theorem evaluated_debTimer (c : Command) (f : Frame) (s : State) : (evaluated c f s).debTimer = s.debTimer := rfl

@[simp] theorem evaluated_panelQ (c : Command) (f : Frame) (s : State) : (evaluated c f s).panelQ = s.panelQ := rfl

@[simp] theorem evaluated_d2pQ (c : Command) (f : Frame) (s : State) : (evaluated c f s).d2pQ = s.d2pQ := rfl

@[simp] theorem evaluated_idleTimer (c : Command) (f : Frame) (s : State) : (evaluated c f s).idleTimer = 0 := rfl

@[simp] theorem evaluated_txFrame (c : Command) (f : Frame) (s : State) : (evaluated c f s).txFrame = f := rfl

@[simp] theorem evaluated_txRemaining (c : Command) (f : Frame) (s : State) : (evaluated c f s).txRemaining = c.repeatCount := rfl

@[simp] theorem evaluated_txClears (c : Command) (f : Frame) (s : State) : (evaluated c f s).txClears = c.clearsTarget := rfl

@[simp] theorem evaluated_txResignal (c : Command) (f : Frame) (s : State) : (evaluated c f s).txResignal = isMovement c.message := rfl

@[simp] theorem evaluated_clState (c : Command) (f : Frame) (s : State) : (evaluated c f s).clState = .writing := rfl

@[simp] theorem evaluated_txGap (c : Command) (f : Frame) (s : State) : (evaluated c f s).txGap = 0 := rfl

@[simp] theorem evaluated_pwState (c : Command) (f : Frame) (s : State) : (evaluated c f s).pwState = s.pwState := rfl

@[simp] theorem evaluated_pwFrame (c : Command) (f : Frame) (s : State) : (evaluated c f s).pwFrame = s.pwFrame := rfl

@[simp] theorem evaluated_pwRemaining (c : Command) (f : Frame) (s : State) : (evaluated c f s).pwRemaining = s.pwRemaining := rfl

@[simp] theorem evaluated_pwGap (c : Command) (f : Frame) (s : State) : (evaluated c f s).pwGap = s.pwGap := rfl

@[simp] theorem evaluated_run (c : Command) (f : Frame) (s : State) : (evaluated c f s).run = s.run := rfl

@[simp] theorem evaluated_cause (c : Command) (f : Frame) (s : State) : (evaluated c f s).cause = s.cause := rfl

@[simp] theorem evaluated_env (c : Command) (f : Frame) (s : State) : (evaluated c f s).env = s.env := rfl

@[simp] theorem evaluated_link (c : Command) (f : Frame) (s : State) (L : Link) : (evaluated c f s).link L = s.link L := rfl

/-! ### `deskTransmit` (R235) -/

@[simp] theorem deskTransmit_desk (s : State) : (deskTransmit s).desk = s.desk := rfl

@[simp] theorem deskTransmit_panel (s : State) : (deskTransmit s).panel = s.panel := rfl

@[simp] theorem deskTransmit_currentHeight (s : State) : (deskTransmit s).currentHeight = s.currentHeight := rfl

@[simp] theorem deskTransmit_targetHeight (s : State) : (deskTransmit s).targetHeight = s.targetHeight := rfl

@[simp] theorem deskTransmit_currentPanelKey (s : State) : (deskTransmit s).currentPanelKey = s.currentPanelKey := rfl

@[simp] theorem deskTransmit_wake (s : State) : (deskTransmit s).wake = s.wake := rfl

@[simp] theorem deskTransmit_shutdown (s : State) : (deskTransmit s).shutdown = s.shutdown := rfl

@[simp] theorem deskTransmit_debTimer (s : State) : (deskTransmit s).debTimer = s.debTimer := rfl

@[simp] theorem deskTransmit_panelQ (s : State) : (deskTransmit s).panelQ = s.panelQ := rfl

@[simp] theorem deskTransmit_d2pQ (s : State) : (deskTransmit s).d2pQ = s.d2pQ := rfl

@[simp] theorem deskTransmit_idleTimer (s : State) : (deskTransmit s).idleTimer = s.idleTimer := rfl

@[simp] theorem deskTransmit_txFrame (s : State) : (deskTransmit s).txFrame = s.txFrame := rfl

@[simp] theorem deskTransmit_txRemaining (s : State) : (deskTransmit s).txRemaining = s.txRemaining - 1 := rfl

@[simp] theorem deskTransmit_txClears (s : State) : (deskTransmit s).txClears = s.txClears := rfl

@[simp] theorem deskTransmit_txResignal (s : State) : (deskTransmit s).txResignal = s.txResignal := rfl

@[simp] theorem deskTransmit_clState (s : State) : (deskTransmit s).clState = s.clState := rfl

@[simp] theorem deskTransmit_txGap (s : State) : (deskTransmit s).txGap = Config.tFrame := rfl

@[simp] theorem deskTransmit_pwState (s : State) : (deskTransmit s).pwState = s.pwState := rfl

@[simp] theorem deskTransmit_pwFrame (s : State) : (deskTransmit s).pwFrame = s.pwFrame := rfl

@[simp] theorem deskTransmit_pwRemaining (s : State) : (deskTransmit s).pwRemaining = s.pwRemaining := rfl

@[simp] theorem deskTransmit_pwGap (s : State) : (deskTransmit s).pwGap = s.pwGap := rfl

@[simp] theorem deskTransmit_run (s : State) : (deskTransmit s).run = s.run := rfl

@[simp] theorem deskTransmit_cause (s : State) : (deskTransmit s).cause = s.cause := rfl

@[simp] theorem deskTransmit_env (s : State) : (deskTransmit s).env = { s.env with outputs := .tx .desk s.txFrame :: s.env.outputs } := rfl

@[simp] theorem deskTransmit_link (s : State) (L : Link) : (deskTransmit s).link L = s.link L := rfl

/-! ### `writeComplete` (R240) -/

@[simp] theorem writeComplete_desk (s : State) : (writeComplete s).desk = s.desk := rfl

@[simp] theorem writeComplete_panel (s : State) : (writeComplete s).panel = s.panel := rfl

@[simp] theorem writeComplete_currentHeight (s : State) : (writeComplete s).currentHeight = s.currentHeight := rfl

@[simp] theorem writeComplete_targetHeight (s : State) : (writeComplete s).targetHeight = if s.txClears then none else s.targetHeight := rfl

@[simp] theorem writeComplete_currentPanelKey (s : State) : (writeComplete s).currentPanelKey = s.currentPanelKey := rfl

@[simp] theorem writeComplete_shutdown (s : State) : (writeComplete s).shutdown = s.shutdown := rfl

@[simp] theorem writeComplete_debTimer (s : State) : (writeComplete s).debTimer = s.debTimer := rfl

@[simp] theorem writeComplete_panelQ (s : State) : (writeComplete s).panelQ = s.panelQ := rfl

@[simp] theorem writeComplete_d2pQ (s : State) : (writeComplete s).d2pQ = s.d2pQ := rfl

@[simp] theorem writeComplete_idleTimer (s : State) : (writeComplete s).idleTimer = 0 := rfl

@[simp] theorem writeComplete_txFrame (s : State) : (writeComplete s).txFrame = s.txFrame := rfl

@[simp] theorem writeComplete_txRemaining (s : State) : (writeComplete s).txRemaining = s.txRemaining := rfl

@[simp] theorem writeComplete_txClears (s : State) : (writeComplete s).txClears = s.txClears := rfl

@[simp] theorem writeComplete_txResignal (s : State) : (writeComplete s).txResignal = s.txResignal := rfl

@[simp] theorem writeComplete_clState (s : State) : (writeComplete s).clState = .waiting := rfl

@[simp] theorem writeComplete_txGap (s : State) : (writeComplete s).txGap = s.txGap := rfl

@[simp] theorem writeComplete_pwState (s : State) : (writeComplete s).pwState = s.pwState := rfl

@[simp] theorem writeComplete_pwFrame (s : State) : (writeComplete s).pwFrame = s.pwFrame := rfl

@[simp] theorem writeComplete_pwRemaining (s : State) : (writeComplete s).pwRemaining = s.pwRemaining := rfl

@[simp] theorem writeComplete_pwGap (s : State) : (writeComplete s).pwGap = s.pwGap := rfl

@[simp] theorem writeComplete_run (s : State) : (writeComplete s).run = s.run := rfl

@[simp] theorem writeComplete_cause (s : State) : (writeComplete s).cause = s.cause := rfl

@[simp] theorem writeComplete_env (s : State) : (writeComplete s).env = s.env := rfl

@[simp] theorem writeComplete_link (s : State) (L : Link) : (writeComplete s).link L = s.link L := rfl

/-! ### `tick` (R300) -/

@[simp] theorem tick_desk (s : State) : (tick s).desk = s.desk := rfl

@[simp] theorem tick_panel (s : State) : (tick s).panel = s.panel := rfl

@[simp] theorem tick_currentHeight (s : State) : (tick s).currentHeight = s.currentHeight := rfl

@[simp] theorem tick_targetHeight (s : State) : (tick s).targetHeight = s.targetHeight := rfl

@[simp] theorem tick_currentPanelKey (s : State) : (tick s).currentPanelKey = s.currentPanelKey := rfl

@[simp] theorem tick_wake (s : State) : (tick s).wake = s.wake := rfl

@[simp] theorem tick_shutdown (s : State) : (tick s).shutdown = s.shutdown := rfl

@[simp] theorem tick_panelQ (s : State) : (tick s).panelQ = s.panelQ := rfl

@[simp] theorem tick_d2pQ (s : State) : (tick s).d2pQ = s.d2pQ := rfl

@[simp] theorem tick_txFrame (s : State) : (tick s).txFrame = s.txFrame := rfl

@[simp] theorem tick_txRemaining (s : State) : (tick s).txRemaining = s.txRemaining := rfl

@[simp] theorem tick_txClears (s : State) : (tick s).txClears = s.txClears := rfl

@[simp] theorem tick_txResignal (s : State) : (tick s).txResignal = s.txResignal := rfl

@[simp] theorem tick_clState (s : State) : (tick s).clState = s.clState := rfl

@[simp] theorem tick_txGap (s : State) : (tick s).txGap = s.txGap - 1 := rfl

@[simp] theorem tick_pwState (s : State) : (tick s).pwState = s.pwState := rfl

@[simp] theorem tick_pwFrame (s : State) : (tick s).pwFrame = s.pwFrame := rfl

@[simp] theorem tick_pwRemaining (s : State) : (tick s).pwRemaining = s.pwRemaining := rfl

@[simp] theorem tick_pwGap (s : State) : (tick s).pwGap = s.pwGap - 1 := rfl

@[simp] theorem tick_run (s : State) : (tick s).run = s.run := rfl

@[simp] theorem tick_cause (s : State) : (tick s).cause = s.cause := rfl

@[simp] theorem tick_env (s : State) : (tick s).env = s.env := rfl

@[simp] theorem tick_link (s : State) (L : Link) : (tick s).link L = s.link L := rfl

/-- The notification a completed write leaves (R240). -/
theorem writeComplete_wake (s : State) :
    (writeComplete s).wake = (s.wake || s.txClears || (s.txResignal && (writeComplete s).targetHeight.isSome)) := rfl

/-- `deb_timer` after a `TICK`: one more, saturating at 1000 (R300). -/
theorem tick_debTimer (s : State) :
    (tick s).debTimer.toNat = if s.debTimer.toNat < 1000 then s.debTimer.toNat + 1 else s.debTimer.toNat := by
  simp only [tick, Config.tDebounce, BitVec.lt_def]
  by_cases h : s.debTimer.toNat < 1000
  · simp [h]; omega
  · simp [h]

/-- `idle_timer` after a `TICK`: one more, saturating at 10000 (R300). -/
theorem tick_idleTimer (s : State) :
    (tick s).idleTimer.toNat = if s.idleTimer.toNat < 10000 then s.idleTimer.toNat + 1 else s.idleTimer.toNat := by
  simp only [tick, Config.tIdle, BitVec.lt_def]
  by_cases h : s.idleTimer.toNat < 10000
  · simp [h]; omega
  · simp [h]

/-! ### What has been sent -/

theorem sent_of_outputs_eq (L : Link) {s t : State} (h : t.env.outputs = s.env.outputs) : t.sent L = s.sent L := by
  simp [State.sent, h]

theorem sent_of_transmission (L M : Link) (f : Frame) {s t : State} (h : t.env.outputs = .tx M f :: s.env.outputs) :
    t.sent L = s.sent L ++ if M = L then [f] else [] := by
  by_cases hML : M = L <;> simp [State.sent, h, txOn, hML]

theorem sent_of_other_output (L : Link) (o : Output) {s t : State} (ho : txOn L o = none)
    (h : t.env.outputs = o :: s.env.outputs) : t.sent L = s.sent L := by
  simp [State.sent, h, ho]

end Sys2Proof.Machine
end

