-- ==== Sys2Proof/Laws/Ops.lean ====
section
/-! SUPPORT. For each shared operation, once everything it can do: if it answers `next t`, then one of these cases. -/
namespace Sys2Proof.Machine

/-! ### The frame buffer (R60) -/

theorem bufRead_bufWrite (f : Frame) (i j : Fin 7) (b : Byte) :
    bufRead (bufWrite f i b) j = if j = i then b else bufRead f j := by
  fin_cases i <;> fin_cases j <;> rfl

/-- Frames with the same seven bytes are equal. -/
theorem frame_ext_bufRead {f g : Frame} (h : ∀ i, bufRead f i = bufRead g i) : f = g := by
  have h0 := h 0
  have h1 := h 1
  have h2 := h 2
  have h3 := h 3
  have h4 := h 4
  have h5 := h 5
  have h6 := h 6
  cases f
  cases g
  simp_all [bufRead]

/-! ### Delivery -/

theorem exec_p2d (m : P2D) (s : State) : exec m.instr s = receiveP2D m s := by cases m <;> rfl

theorem exec_d2p (m : D2P) (s : State) : exec m.instr s = receiveD2P m s := by cases m <;> rfl

/-- Everything the push to `d2p_q` can do (R200, R285). -/
theorem pushD2P_cases (m : D2P) (s : State) :
    (s.run.panelWriter = .running ∧ s.pushD2P m = { s with d2pQ := s.d2pQ ++ [m] }) ∨
    (s.run.panelWriter ≠ .running ∧ s.pushD2P m = s.raise .deskReader .channelSend) := by
  unfold State.pushD2P
  split
  · next h => exact .inl ⟨by simpa [State.isRunning, PerAgent.get] using h, rfl⟩
  · next h => exact .inr ⟨by simpa [State.isRunning, PerAgent.get] using h, rfl⟩

/-- Everything the push to `panel_q` can do (R180, R285). -/
theorem pushP2D_cases (m : P2D) (s : State) :
    (s.run.debouncer = .running ∧ s.pushP2D m = { s with panelQ := s.panelQ ++ [m] }) ∨
    (s.run.debouncer ≠ .running ∧ s.pushP2D m = s.raise .panelReader .channelSend) := by
  unfold State.pushP2D
  split
  · next h => exact .inl ⟨by simpa [State.isRunning, PerAgent.get] using h, rfl⟩
  · next h => exact .inr ⟨by simpa [State.isRunning, PerAgent.get] using h, rfl⟩

/-- The height the relay of a message leaves (R200). -/
def heightAfter (m : D2P) (cur : Mm) : Mm :=
  match m with
  | .height h => h
  | .unknownD _ _ _ _ _ => cur

theorem relay_eq (m : D2P) (s : State) :
    s.relay m = State.pushD2P m { s with currentHeight := heightAfter m s.currentHeight } := by
  cases m <;> rfl

/-- Everything the reception of a desk message can do. -/
theorem receiveD2P_cases {m : D2P} {s t : State} (h : receiveD2P m s = .next t) :
    (s.run.deskReader ≠ .running ∧ t = s) ∨
    (s.run.deskReader = .running ∧ s.run.panelWriter = .running ∧
      t = { s with desk := s.desk.emitted, currentHeight := heightAfter m s.currentHeight, d2pQ := s.d2pQ ++ [m] }) ∨
    (s.run.deskReader = .running ∧ s.run.panelWriter ≠ .running ∧
      t = { s with desk := s.desk.emitted, currentHeight := heightAfter m s.currentHeight,
                   run := { s.run with deskReader := .faulted }, cause := { s.cause with deskReader := .channelSend } }) := by
  unfold receiveD2P at h
  split at h
  · next hr =>
    have hr' : s.run.deskReader = .running := by simpa [State.isRunning, PerAgent.get] using hr
    rw [relay_eq] at h
    rcases pushD2P_cases m { s.emitRx .desk with currentHeight := heightAfter m (s.emitRx .desk).currentHeight }
      with ⟨hp, he⟩ | ⟨hp, he⟩
    · refine .inr (.inl ⟨hr', hp, ?_⟩)
      rw [he] at h
      injection h with h
      exact h.symm
    · refine .inr (.inr ⟨hr', hp, ?_⟩)
      rw [he] at h
      injection h with h
      exact h.symm
  · next hr =>
    refine .inl ⟨by simpa [State.isRunning, PerAgent.get] using hr, ?_⟩
    injection h with h
    exact h.symm

/-- Everything the reception of a panel message can do. -/
theorem receiveP2D_cases {m : P2D} {s t : State} (h : receiveP2D m s = .next t) :
    (s.run.panelReader ≠ .running ∧ t = s) ∨
    (s.run.panelReader = .running ∧ s.run.debouncer = .running ∧
      t = { s with panel := s.panel.emitted, panelQ := s.panelQ ++ [m] }) ∨
    (s.run.panelReader = .running ∧ s.run.debouncer ≠ .running ∧
      t = { s with panel := s.panel.emitted, run := { s.run with panelReader := .faulted },
                   cause := { s.cause with panelReader := .channelSend } }) := by
  unfold receiveP2D at h
  split at h
  · next hr =>
    have hr' : s.run.panelReader = .running := by simpa [State.isRunning, PerAgent.get] using hr
    rcases pushP2D_cases m (s.emitRx .panel) with ⟨hp, he⟩ | ⟨hp, he⟩
    · refine .inr (.inl ⟨hr', hp, ?_⟩)
      rw [he] at h
      injection h with h
      exact h.symm
    · refine .inr (.inr ⟨hr', hp, ?_⟩)
      rw [he] at h
      injection h with h
      exact h.symm
  · next hr =>
    refine .inl ⟨by simpa [State.isRunning, PerAgent.get] using hr, ?_⟩
    injection h with h
    exact h.symm

/-! ### The synchronizer -/

/-- Everything `RX_BYTE` can do: ignored, or one of R171 to R175. -/
theorem rxByte_cases {L : Link} {b : Byte} {s t : State} (h : rxByte L b s = .next t) :
    (s.isRunning (readerOf L) = false ∧ t = s) ∨
    (s.isRunning (readerOf L) = true ∧
      (((s.link L).pos = 0 ∧ b = Config.startByte ∧ t = s.setLink L (s.link L).acceptStart) ∨
       ((s.link L).pos = 0 ∧ b ≠ Config.startByte ∧ t = s.setLink L (s.link L).discardOne) ∨
       ((s.link L).pos ≠ 0 ∧ (s.link L).pos < 6 ∧ t = s.setLink L ((s.link L).fill b)) ∨
       ((s.link L).pos = 6 ∧ ∃ i, decodeFrame L (candidate (s.link L) b) = .ok i ∧ exec i s = .next t) ∨
       ((s.link L).pos = 6 ∧ frameValid (candidate (s.link L) b) = false ∧
         t = s.setLink L (s.link L).discardSeven))) := by
  unfold rxByte at h
  cases hr : s.isRunning (readerOf L) with
  | false => simp_all
  | true =>
    refine .inr ⟨rfl, ?_⟩
    simp only [hr, if_true] at h
    split at h
    · next hp =>
      split at h
      · next hb =>
        injection h with h
        exact .inl ⟨hp, hb, h.symm⟩
      · next hb =>
        injection h with h
        exact .inr (.inl ⟨hp, hb, h.symm⟩)
    · next hp =>
      split at h
      · next hp6 =>
        injection h with h
        exact .inr (.inr (.inl ⟨hp, hp6, h.symm⟩))
      · next hp6 =>
        have hp : (s.link L).pos = 6 := by omega
        split at h
        · next i hd => exact .inr (.inr (.inr (.inl ⟨hp, i, hd, h⟩)))
        · next e hd =>
          injection h with h
          exact .inr (.inr (.inr (.inr ⟨hp, (decodeFrame_error_iff L _).1 ⟨e, hd⟩, h.symm⟩)))

/-- A frame a link's decoder accepts carries a message of that link's direction. -/
theorem decodeFrame_desk_cases {f : Frame} {i : Instr} (h : decodeFrame .desk f = .ok i) :
    frameValid f = true ∧ i = (decD2P f).instr := by
  obtain ⟨hv, hi⟩ := (decodeFrame_ok_iff _ _ _).1 h
  exact ⟨hv, hi.symm⟩

theorem decodeFrame_panel_cases {f : Frame} {i : Instr} (h : decodeFrame .panel f = .ok i) :
    frameValid f = true ∧ i = (decP2D f).instr := by
  obtain ⟨hv, hi⟩ := (decodeFrame_ok_iff _ _ _).1 h
  exact ⟨hv, hi.symm⟩

/-! ### The panel writer and the debouncer -/

/-- Everything the panel writer's turn can do (R201 to R203, R246, R285). -/
theorem panelWriterStep_cases {s t : State} (h : panelWriterStep s = .next t) :
    t = s ∨
    (s.run.panelWriter = .running ∧ s.shutdown = true ∧ t = s.halt .panelWriter) ∨
    (s.run.panelWriter = .running ∧ s.shutdown = false ∧
      ((s.pwState = .writing ∧ s.pwGap = 0 ∧ s.pwRemaining ≠ 0 ∧ t = panelTransmit s) ∨
       (s.pwState = .writing ∧ s.pwGap = 0 ∧ s.pwRemaining = 0 ∧ t = panelComplete s) ∨
       (s.pwState = .idle ∧ ∃ m rest f, s.d2pQ = m :: rest ∧ encD2P m = some f ∧
         t = { s with d2pQ := rest, pwFrame := f, pwRemaining := Config.relayTimes, pwState := .writing }) ∨
       (s.pwState = .idle ∧ s.d2pQ = [] ∧ s.run.deskReader ≠ .running ∧
         t = s.raise .panelWriter .channelReceive))) := by
  unfold panelWriterStep at h
  split at h
  · injection h with h; exact .inl h.symm
  next hr =>
  have hr : s.run.panelWriter = .running := by simpa [State.isRunning, PerAgent.get] using hr
  split at h
  · next hs => injection h with h; exact .inr (.inl ⟨hr, hs, h.symm⟩)
  next hs =>
  have hs : s.shutdown = false := by simpa using hs
  split at h
  · next hw =>
    split at h
    · injection h with h; exact .inl h.symm
    next hg =>
    split at h
    · next hm => injection h with h; exact .inr (.inr ⟨hr, hs, .inl ⟨hw, by simpa using hg, hm, h.symm⟩⟩)
    · next hm =>
      injection h with h
      exact .inr (.inr ⟨hr, hs, .inr (.inl ⟨hw, by simpa using hg, by simpa using hm, h.symm⟩)⟩)
  · next hi =>
    split at h
    · next m rest hq =>
      unfold panelStart at h
      split at h
      · next f hf =>
        injection h with h
        exact .inr (.inr ⟨hr, hs, .inr (.inr (.inl ⟨hi, m, rest, f, hq, hf, h.symm⟩))⟩)
      · cases h
    · next hq =>
      split at h
      · injection h with h; exact .inl h.symm
      · next hd =>
        injection h with h
        exact .inr (.inr ⟨hr, hs, .inr (.inr (.inr
          ⟨hi, hq, by simpa [State.isRunning, PerAgent.get] using hd, h.symm⟩))⟩)

/-- Everything the debouncer's turn can do (R205, R206, R246, R285). -/
theorem debouncerStep_cases (s : State) :
    debouncerStep s = s ∨
    (s.run.debouncer = .running ∧ s.shutdown = true ∧ debouncerStep s = s.halt .debouncer) ∨
    (s.run.debouncer = .running ∧ s.shutdown = false ∧
      ((∃ m rest, s.panelQ = m :: rest ∧ debouncerStep s = debounceTake m rest s) ∨
       (s.panelQ = [] ∧ s.run.panelReader ≠ .running ∧ debouncerStep s = s.raise .debouncer .channelReceive) ∨
       (s.panelQ = [] ∧ s.run.panelReader = .running ∧ s.debounceExpired = true ∧
         debouncerStep s = debounceExpire s))) := by
  unfold debouncerStep
  split
  · exact .inl rfl
  next hr =>
  have hr : s.run.debouncer = .running := by simpa [State.isRunning, PerAgent.get] using hr
  split
  · next hs => exact .inr (.inl ⟨hr, hs, rfl⟩)
  next hs =>
  have hs : s.shutdown = false := by simpa using hs
  split
  · next m rest hq => exact .inr (.inr ⟨hr, hs, .inl ⟨m, rest, hq, rfl⟩⟩)
  · next hq =>
    split
    · next hd => exact .inr (.inr ⟨hr, hs, .inr (.inl ⟨hq, by simpa [State.isRunning, PerAgent.get] using hd, rfl⟩)⟩)
    next hd =>
    split
    · next he =>
      exact .inr (.inr ⟨hr, hs, .inr (.inr ⟨hq, by simpa [State.isRunning, PerAgent.get] using hd, he, rfl⟩)⟩)
    · exact .inl rfl

/-! ### The control loop -/

/-- Everything an evaluation can do (R233, R234). -/
theorem evaluate_cases {s t : State} (h : evaluate s = .next t) :
    (nextCommand s.currentPanelKey s.targetHeight s.currentHeight = none ∧ t = { s with idleTimer := 0 }) ∨
    (∃ c f, nextCommand s.currentPanelKey s.targetHeight s.currentHeight = some c ∧ encP2D c.message = some f ∧
      t = evaluated c f s) := by
  unfold evaluate at h
  split at h
  · next hn => injection h with h; exact .inl ⟨hn, h.symm⟩
  · next c hc =>
    split at h
    · cases h
    · next f hf => injection h with h; exact .inr ⟨c, f, hc, hf, h.symm⟩

/-- Everything `next_command` can answer (R221, R222, R224 to R227). -/
theorem nextCommand_cases (key : Option P2D) (target : Option Mm) (cur : Mm) :
    (key = none ∧ target = none ∧ nextCommand key target cur = none) ∨
    (∃ k, key = some k ∧ k ≠ .noKey ∧ nextCommand key target cur
      = some { message := k, repeatCount := 1, clearsTarget := false }) ∨
    (key = some .noKey ∧ target = none ∧ nextCommand key target cur
      = some { message := .noKey, repeatCount := 1, clearsTarget := false }) ∨
    (∃ t, (key = none ∨ key = some .noKey) ∧ target = some t ∧ nextCommand key target cur = some (pursue t cur)) := by
  cases key with
  | none => cases target <;> simp [nextCommand]
  | some k => cases k <;> cases target <;> simp [nextCommand]

/-- Everything a pursuit can decide (R224, R225, R226). -/
theorem pursue_cases (t cur : Mm) :
    (within cur t = true ∧ pursue t cur = { message := .noKey, repeatCount := 200, clearsTarget := true }) ∨
    (below cur t = true ∧ pursue t cur = { message := .up, repeatCount := 1, clearsTarget := false }) ∨
    (above cur t = true ∧ pursue t cur = { message := .down, repeatCount := 1, clearsTarget := false }) := by
  unfold pursue
  split
  · next h => exact .inl ⟨h, rfl⟩
  next h =>
  split
  · next hb => exact .inr (.inl ⟨hb, rfl⟩)
  · next hb =>
    refine .inr (.inr ⟨?_, rfl⟩)
    rw [within_iff] at h
    rw [below_iff] at hb
    rw [above_iff]
    omega

/-- Everything the control loop's turn can do (R232, R235, R240, R246, R247). -/
theorem controlLoopStep_cases {s t : State} (h : controlLoopStep s = .next t) :
    t = s ∨
    (s.run.controlLoop = .running ∧ s.shutdown = true ∧ t = s.halt .controlLoop) ∨
    (s.run.controlLoop = .running ∧ s.shutdown = false ∧
      ((s.clState = .waiting ∧ (s.wake = true ∨ s.idleExpired = true) ∧ evaluate { s with wake := false } = .next t) ∨
       (s.clState = .writing ∧ s.txGap = 0 ∧ s.txRemaining ≠ 0 ∧ t = deskTransmit s) ∨
       (s.clState = .writing ∧ s.txGap = 0 ∧ s.txRemaining = 0 ∧ t = writeComplete s))) := by
  unfold controlLoopStep at h
  split at h
  · injection h with h; exact .inl h.symm
  next hr =>
  have hr : s.run.controlLoop = .running := by simpa [State.isRunning, PerAgent.get] using hr
  split at h
  · next hs => injection h with h; exact .inr (.inl ⟨hr, hs, h.symm⟩)
  next hs =>
  have hs : s.shutdown = false := by simpa using hs
  split at h
  · next hw =>
    split at h
    · next hk => exact .inr (.inr ⟨hr, hs, .inl ⟨hw, .inl hk, h⟩⟩)
    next hk =>
    have hk : s.wake = false := by simpa using hk
    split at h
    · next hi =>
      have : ({ s with wake := false } : State) = s := by rw [← hk]
      exact .inr (.inr ⟨hr, hs, .inl ⟨hw, .inr hi, by rw [this]; exact h⟩⟩)
    · injection h with h; exact .inl h.symm
  · next hw =>
    split at h
    · injection h with h; exact .inl h.symm
    next hg =>
    split at h
    · next hm => injection h with h; exact .inr (.inr ⟨hr, hs, .inr (.inl ⟨hw, by simpa using hg, hm, h.symm⟩)⟩)
    · next hm =>
      injection h with h
      exact .inr (.inr ⟨hr, hs, .inr (.inr ⟨hw, by simpa using hg, by simpa using hm, h.symm⟩)⟩)

/-! ### The events without cases of their own -/

/-- Everything a reader's turn can do (R185, R246). -/
theorem readerStep_cases (L : Link) (s : State) :
    readerStep L s = s ∨
    (s.run.get (readerOf L) = .running ∧ s.shutdown = true ∧ readerStep L s = s.halt (readerOf L)) := by
  unfold readerStep
  split
  · next h =>
    simp only [Bool.and_eq_true, isRunning_iff] at h
    exact .inr ⟨h.1, h.2, rfl⟩
  · exact .inl rfl

/-- Everything `RX_TIMEOUT` can do (R176, R181, R283). -/
theorem rxTimeout_cases (L : Link) (s : State) :
    (s.run.get (readerOf L) ≠ .running ∧ rxTimeout L s = s) ∨
    (s.run.get (readerOf L) = .running ∧ rxTimeout L s = s.setLink L (s.link L).report) := by
  unfold rxTimeout
  split
  · next h => exact .inr ⟨(isRunning_iff _ _).1 h, rfl⟩
  · next h => exact .inl ⟨fun hh => h ((isRunning_iff _ _).2 hh), rfl⟩

/-- Everything `RX_ERROR` can do (R283). -/
theorem rxError_cases (L : Link) (s : State) :
    (s.run.get (readerOf L) ≠ .running ∧ rxError L s = s) ∨
    (s.run.get (readerOf L) = .running ∧ rxError L s = s.raise (readerOf L) .portRead) := by
  unfold rxError
  split
  · next h => exact .inr ⟨(isRunning_iff _ _).1 h, rfl⟩
  · next h => exact .inl ⟨fun hh => h ((isRunning_iff _ _).2 hh), rfl⟩

/-- Everything `TX_ERROR` can do (R284). -/
theorem txError_cases (L : Link) (s : State) :
    (s.txDue L = false ∧ txError L s = s) ∨
    (s.txDue L = true ∧ s.run.get (writerOf L) = .running ∧ txError L s = s.raise (writerOf L) .portWrite) := by
  unfold txError
  split
  · next h =>
    refine .inr ⟨h, ?_, rfl⟩
    cases L <;>
      simp only [State.txDue, State.deskTxDue, State.panelTxDue, Bool.and_eq_true, isRunning_iff] at h <;>
      exact h.1.1.1.1
  · next h => exact .inl ⟨by simpa using h, rfl⟩

/-- Everything `MOVE_TO_HEIGHT` can do (R250). -/
theorem moveToHeight_cases (h : Nat) (s : State) :
    (650 ≤ h ∧ h ≤ 1295 ∧ h % 5 = 0 ∧
      moveToHeight h s = State.emit (.moveResult .ok) { s with targetHeight := some (BitVec.ofNat 17 h), wake := true }) ∨
    (∃ r, r ≠ .ok ∧ moveToHeight h s = State.emit (.moveResult r) s) := by
  unfold moveToHeight validateMove
  by_cases ho : outOfRange h = true
  · exact .inr ⟨.outOfRange h Config.hMin Config.hMax, by simp, by rw [if_pos ho]⟩
  by_cases hm : notMultiple h = true
  · exact .inr ⟨.notMultiple h Config.hStep, by simp, by rw [if_neg ho, if_pos hm]⟩
  refine .inl ⟨?_, ?_, ?_, by rw [if_neg ho, if_neg hm]⟩ <;> rw [outOfRange_iff] at ho <;>
    rw [notMultiple_iff] at hm <;> omega

/-- What a status read changes: the environment's side only, and no transmission (R74). -/
theorem readFound_env (L : Link) (s : State) :
    ∃ env, readFound L s = { s with env := env } ∧ env.pending = s.env.pending ∧ env.drawn = s.env.drawn ∧
      env.outputs = s.env.outputs := by
  cases L <;> exact ⟨_, rfl, rfl, rfl, rfl⟩

theorem readDropped_env (L : Link) (s : State) :
    ∃ env, readDropped L s = { s with env := env } ∧ env.pending = s.env.pending ∧ env.drawn = s.env.drawn ∧
      (env.outputs = s.env.outputs ∨ ∃ n m, env.outputs = .frameCounts L n m :: s.env.outputs) := by
  cases L with
  | desk =>
    cases hf : s.env.deskFound with
    | none => exact ⟨s.env, by simp [readDropped, hf], rfl, rfl, .inl rfl⟩
    | some n =>
      refine ⟨(readDropped .desk s).env, ?_, ?_, ?_, .inr ⟨n, s.desk.droppedByteCount, ?_⟩⟩ <;>
        simp only [readDropped, hf] <;> rfl
  | panel =>
    cases hf : s.env.panelFound with
    | none => exact ⟨s.env, by simp [readDropped, hf], rfl, rfl, .inl rfl⟩
    | some n =>
      refine ⟨(readDropped .panel s).env, ?_, ?_, ?_, .inr ⟨n, s.panel.droppedByteCount, ?_⟩⟩ <;>
        simp only [readDropped, hf] <;> rfl

end Sys2Proof.Machine
end

