-- ==== Sys2Proof/Laws/PerInstr.lean ====
section
/-! SUPPORT. Per instruction: the frame the encoder gives it begins with START, ends with END and carries the kind's key
byte (30_encoding.md R91, R94, R101, R102). -/
namespace Sys2Proof.Laws.Framed

/-- The key byte of a frame kind; an `Unknown` stores its own (R101, R102). -/
def keyByte : Instr → Byte
  | .height _ => 0x00
  | .unknownD _ b _ _ _ => b
  | .up => 0x01
  | .down => 0x02
  | .noKey => 0x03
  | .presetOne _ => 0x06
  | .presetTwo _ => 0x07
  | .presetThree _ => 0x08
  | .unknownP _ b _ _ _ => b

/-- Whatever frame the encoder gives an instruction is delimited and carries its key byte. -/
def Statement (i : Instr) : Prop :=
  ∀ f, encode i = some f → f.b0 = Config.startByte ∧ f.b6 = Config.endByte ∧ f.b2 = keyByte i

theorem height (h : Mm) : Statement (.height h) := by
  intro f hf
  obtain ⟨_, _, rfl⟩ := (encHeight_some_iff h f).1 hf
  exact ⟨rfl, rfl, rfl⟩

theorem unknownD (a b c d k : Byte) : Statement (.unknownD a b c d k) := by
  rintro f ⟨⟩
  exact ⟨rfl, rfl, rfl⟩

theorem up : Statement .up := by
  rintro f ⟨⟩
  exact ⟨rfl, rfl, rfl⟩

theorem down : Statement .down := by
  rintro f ⟨⟩
  exact ⟨rfl, rfl, rfl⟩

theorem noKey : Statement .noKey := by
  rintro f ⟨⟩
  exact ⟨rfl, rfl, rfl⟩

theorem presetOne (h : Mm) : Statement (.presetOne h) := by
  intro f hf
  obtain ⟨_, rfl⟩ := (encPreset_some_iff 0x06 h f).1 hf
  exact ⟨rfl, rfl, rfl⟩

theorem presetTwo (h : Mm) : Statement (.presetTwo h) := by
  intro f hf
  obtain ⟨_, rfl⟩ := (encPreset_some_iff 0x07 h f).1 hf
  exact ⟨rfl, rfl, rfl⟩

theorem presetThree (h : Mm) : Statement (.presetThree h) := by
  intro f hf
  obtain ⟨_, rfl⟩ := (encPreset_some_iff 0x08 h f).1 hf
  exact ⟨rfl, rfl, rfl⟩

theorem unknownP (a b c d k : Byte) : Statement (.unknownP a b c d k) := by
  rintro f ⟨⟩
  exact ⟨rfl, rfl, rfl⟩

end Sys2Proof.Laws.Framed
end

