-- ==== Sys2Proof/Laws/Steps.lean ====
section
/-! SUPPORT. Once everything one event or agent turn can do: `act e s = .next t` implies `Did e s t`, each constructor of
`Did` being one rule of the block. A proof about a step is a case analysis of `act_did`. -/
namespace Sys2Proof.Machine

/-- The events that change nothing: one for a reader that is not Running (R170, R283), a `TX_ERROR` with no `TX` due, the
second read of a counter pair without a first, a turn of an agent. -/
def changesNothing (e : Event) (s : State) : Prop :=
  match e with
  | .rxByte L _ => s.run.get (readerOf L) ≠ .running
  | .rxTimeout L => s.run.get (readerOf L) ≠ .running
  | .rxError L => s.run.get (readerOf L) ≠ .running
  | .txError L => s.txDue L = false
  | .agentStep _ => True
  | .readDropped _ => True
  | .reset | .tick | .moveToHeight _ | .shutdown | .readCurrentHeight | .readCurrentPanelKey | .readFound _ => False

/-- Event `e` took `s` to `t` by one of the block's rules. -/
inductive Did : Event → State → State → Prop where
  /-- no rule applies -/
  | nothing (e : Event) (s : State) : changesNothing e s → Did e s s
  | reset (s : State) : Did .reset s s.resetBlock
  /-- R171 -/
  | acceptStart (L : Link) (s : State) : s.run.get (readerOf L) = .running → (s.link L).pos = 0 →
      Did (.rxByte L Config.startByte) s (s.setLink L (s.link L).acceptStart)
  /-- R172 -/
  | discardOne (L : Link) (b : Byte) (s : State) : s.run.get (readerOf L) = .running → (s.link L).pos = 0 →
      b ≠ Config.startByte → Did (.rxByte L b) s (s.setLink L (s.link L).discardOne)
  /-- R173 -/
  | fill (L : Link) (b : Byte) (s : State) : s.run.get (readerOf L) = .running → (s.link L).pos ≠ 0 →
      (s.link L).pos < 6 → Did (.rxByte L b) s (s.setLink L ((s.link L).fill b))
  /-- R175 -/
  | discardSeven (L : Link) (b : Byte) (s : State) : s.run.get (readerOf L) = .running → (s.link L).pos = 6 →
      frameValid (candidate (s.link L) b) = false →
      Did (.rxByte L b) s (s.setLink L (s.link L).discardSeven)
  /-- R174, R180, R200 -/
  | relayed (b : Byte) (s : State) : s.run.deskReader = .running → s.run.panelWriter = .running → s.desk.pos = 6 →
      frameValid (candidate s.desk b) = true →
      Did (.rxByte .desk b) s
        { s with desk := s.desk.emitted
                 currentHeight := heightAfter (decD2P (candidate s.desk b)) s.currentHeight
                 d2pQ := s.d2pQ ++ [decD2P (candidate s.desk b)] }
  /-- R174, R180, R200, R285's send side -/
  | relayFault (b : Byte) (s : State) : s.run.deskReader = .running → s.run.panelWriter ≠ .running →
      s.desk.pos = 6 → frameValid (candidate s.desk b) = true →
      Did (.rxByte .desk b) s
        { s with desk := s.desk.emitted
                 currentHeight := heightAfter (decD2P (candidate s.desk b)) s.currentHeight
                 run := { s.run with deskReader := .faulted }
                 cause := { s.cause with deskReader := .channelSend } }
  /-- R174, R180 -/
  | queued (b : Byte) (s : State) : s.run.panelReader = .running → s.run.debouncer = .running → s.panel.pos = 6 →
      frameValid (candidate s.panel b) = true →
      Did (.rxByte .panel b) s
        { s with panel := s.panel.emitted, panelQ := s.panelQ ++ [decP2D (candidate s.panel b)] }
  /-- R174, R180, R285's send side -/
  | queueFault (b : Byte) (s : State) : s.run.panelReader = .running → s.run.debouncer ≠ .running →
      s.panel.pos = 6 → frameValid (candidate s.panel b) = true →
      Did (.rxByte .panel b) s
        { s with panel := s.panel.emitted, run := { s.run with panelReader := .faulted },
                 cause := { s.cause with panelReader := .channelSend } }
  /-- R176, R181 -/
  | reported (L : Link) (s : State) : s.run.get (readerOf L) = .running →
      Did (.rxTimeout L) s (s.setLink L (s.link L).report)
  /-- R283 -/
  | readError (L : Link) (s : State) : s.run.get (readerOf L) = .running →
      Did (.rxError L) s (s.raise (readerOf L) .portRead)
  /-- R284 -/
  | writeError (L : Link) (s : State) : s.run.get (writerOf L) = .running → s.txDue L = true →
      Did (.txError L) s (s.raise (writerOf L) .portWrite)
  /-- R300 -/
  | ticked (s : State) : Did .tick s (tick s)
  /-- R250 -/
  | moveAccepted (h : Nat) (s : State) : 650 ≤ h → h ≤ 1295 → h % 5 = 0 →
      Did (.moveToHeight h) s
        (State.emit (.moveResult .ok) { s with targetHeight := some (BitVec.ofNat 17 h), wake := true })
  /-- R250 -/
  | moveRejected (h : Nat) (r : MoveResult) (s : State) : Did (.moveToHeight h) s (State.emit (.moveResult r) s)
  /-- R246 -/
  | shutdownSet (s : State) : Did .shutdown s { s with shutdown := true }
  /-- R73, R252 to R255 -/
  | hostRead (e : Event) (s : State) (env : Environment) :
      e = .readCurrentHeight ∨ e = .readCurrentPanelKey ∨ (∃ L, e = .readFound L) ∨ (∃ L, e = .readDropped L) →
      env.outputs = s.env.outputs ∨
        (∃ o, env.outputs = o :: s.env.outputs ∧ ∀ L, txOn L o = none) → Did e s { s with env := env }
  /-- R246, R247 -/
  | halted (A : Agent) (s : State) : s.run.get A = .running → s.shutdown = true → Did (.agentStep A) s (s.halt A)
  /-- R201 -/
  | panelStarted (m : D2P) (rest : List D2P) (f : Frame) (s : State) : s.run.panelWriter = .running →
      s.shutdown = false → s.pwState = .idle → s.d2pQ = m :: rest → encD2P m = some f →
      Did (.agentStep .panelWriter) s
        { s with d2pQ := rest, pwFrame := f, pwRemaining := Config.relayTimes, pwState := .writing }
  /-- R202 -/
  | panelTransmitted (s : State) : s.run.panelWriter = .running → s.shutdown = false → s.pwState = .writing →
      s.pwGap = 0 → s.pwRemaining ≠ 0 → Did (.agentStep .panelWriter) s (panelTransmit s)
  /-- R203 -/
  | panelCompleted (s : State) : s.run.panelWriter = .running → s.shutdown = false → s.pwState = .writing →
      s.pwGap = 0 → s.pwRemaining = 0 → Did (.agentStep .panelWriter) s (panelComplete s)
  /-- R285's receive side -/
  | panelProducerGone (s : State) : s.run.panelWriter = .running → s.shutdown = false → s.pwState = .idle →
      s.d2pQ = [] → s.run.deskReader ≠ .running →
      Did (.agentStep .panelWriter) s (s.raise .panelWriter .channelReceive)
  /-- R205 -/
  | taken (m : P2D) (rest : List P2D) (s : State) : s.run.debouncer = .running → s.shutdown = false →
      s.panelQ = m :: rest → Did (.agentStep .debouncer) s (debounceTake m rest s)
  /-- R206 -/
  | expired (s : State) : s.run.debouncer = .running → s.shutdown = false → s.panelQ = [] →
      s.run.panelReader = .running → s.debounceExpired = true → Did (.agentStep .debouncer) s (debounceExpire s)
  /-- R285's receive side -/
  | debounceProducerGone (s : State) : s.run.debouncer = .running → s.shutdown = false → s.panelQ = [] →
      s.run.panelReader ≠ .running → Did (.agentStep .debouncer) s (s.raise .debouncer .channelReceive)
  /-- R232, R234 -/
  | evaluatedNone (s : State) : s.run.controlLoop = .running → s.shutdown = false → s.clState = .waiting →
      nextCommand s.currentPanelKey s.targetHeight s.currentHeight = none →
      Did (.agentStep .controlLoop) s { s with wake := false, idleTimer := 0 }
  /-- R232, R233 -/
  | evaluatedSome (c : Command) (f : Frame) (s : State) : s.run.controlLoop = .running → s.shutdown = false →
      s.clState = .waiting → nextCommand s.currentPanelKey s.targetHeight s.currentHeight = some c →
      encP2D c.message = some f →
      Did (.agentStep .controlLoop) s (evaluated c f { s with wake := false })
  /-- R235 -/
  | deskTransmitted (s : State) : s.run.controlLoop = .running → s.shutdown = false → s.clState = .writing →
      s.txGap = 0 → s.txRemaining ≠ 0 → Did (.agentStep .controlLoop) s (deskTransmit s)
  /-- R240 -/
  | writeCompleted (s : State) : s.run.controlLoop = .running → s.shutdown = false → s.clState = .writing →
      s.txGap = 0 → s.txRemaining = 0 → Did (.agentStep .controlLoop) s (writeComplete s)

theorem rxByte_did {L : Link} {b : Byte} {s t : State} (h : rxByte L b s = .next t) : Did (.rxByte L b) s t := by
  rcases rxByte_cases h with ⟨hn, rfl⟩ | ⟨hr, hc⟩
  · exact .nothing _ _ (fun hr => by simp [State.isRunning, hr] at hn)
  have hr := (isRunning_iff _ _).1 hr
  rcases hc with ⟨hp, rfl, rfl⟩ | ⟨hp, hb, rfl⟩ | ⟨hp, hp', rfl⟩ | ⟨hp, i, hi, he⟩ | ⟨hp, hv, rfl⟩
  · exact .acceptStart L s hr hp
  · exact .discardOne L b s hr hp hb
  · exact .fill L b s hr hp hp'
  · cases L with
    | desk =>
      obtain ⟨hv, rfl⟩ := decodeFrame_desk_cases hi
      rw [exec_d2p] at he
      rcases receiveD2P_cases he with ⟨hn, _⟩ | ⟨h1, h2, rfl⟩ | ⟨h1, h2, rfl⟩
      · exact absurd hr hn
      · exact .relayed b s h1 h2 hp hv
      · exact .relayFault b s h1 h2 hp hv
    | panel =>
      obtain ⟨hv, rfl⟩ := decodeFrame_panel_cases hi
      rw [exec_p2d] at he
      rcases receiveP2D_cases he with ⟨hn, _⟩ | ⟨h1, h2, rfl⟩ | ⟨h1, h2, rfl⟩
      · exact absurd hr hn
      · exact .queued b s h1 h2 hp hv
      · exact .queueFault b s h1 h2 hp hv
  · exact .discardSeven L b s hr hp hv

theorem agentStep_did {A : Agent} {s t : State} (h : agentStep A s = .next t) : Did (.agentStep A) s t := by
  cases A with
  | deskReader =>
    injection h with h
    subst h
    rcases readerStep_cases .desk s with hh | ⟨h1, h2, hh⟩ <;> rw [hh]
    · exact .nothing _ _ trivial
    · exact .halted .deskReader s h1 h2
  | panelReader =>
    injection h with h
    subst h
    rcases readerStep_cases .panel s with hh | ⟨h1, h2, hh⟩ <;> rw [hh]
    · exact .nothing _ _ trivial
    · exact .halted .panelReader s h1 h2
  | panelWriter =>
    rcases panelWriterStep_cases h with rfl | ⟨hr, hs, rfl⟩ | ⟨hr, hs, hc⟩
    · exact .nothing _ _ trivial
    · exact .halted _ s hr hs
    rcases hc with ⟨hw, hg, hm, rfl⟩ | ⟨hw, hg, hm, rfl⟩ | ⟨hi, m, rest, f, hq, hf, rfl⟩ | ⟨hi, hq, hd, rfl⟩
    · exact .panelTransmitted s hr hs hw hg hm
    · exact .panelCompleted s hr hs hw hg hm
    · exact .panelStarted m rest f s hr hs hi hq hf
    · exact .panelProducerGone s hr hs hi hq hd
  | debouncer =>
    injection h with h
    subst h
    rcases debouncerStep_cases s with hh | ⟨hr, hs, hh⟩ | ⟨hr, hs, hc⟩
    · rw [hh]; exact .nothing _ _ trivial
    · rw [hh]; exact .halted _ s hr hs
    rcases hc with ⟨m, rest, hq, hh⟩ | ⟨hq, hp, hh⟩ | ⟨hq, hp, he, hh⟩ <;> rw [hh]
    · exact .taken m rest s hr hs hq
    · exact .debounceProducerGone s hr hs hq hp
    · exact .expired s hr hs hq hp he
  | controlLoop =>
    rcases controlLoopStep_cases h with rfl | ⟨hr, hs, rfl⟩ | ⟨hr, hs, hc⟩
    · exact .nothing _ _ trivial
    · exact .halted _ s hr hs
    rcases hc with ⟨hw, _, he⟩ | ⟨hw, hg, hm, rfl⟩ | ⟨hw, hg, hm, rfl⟩
    · rcases evaluate_cases he with ⟨hn, rfl⟩ | ⟨c, f, hc, hf, rfl⟩
      · exact .evaluatedNone s hr hs hw hn
      · exact .evaluatedSome c f s hr hs hw hc hf
    · exact .deskTransmitted s hr hs hw hg hm
    · exact .writeCompleted s hr hs hw hg hm

/-- Once everything an event or agent turn can do (R13). -/
theorem act_did {e : Event} {s t : State} (h : act e s = .next t) : Did e s t := by
  cases e with
  | reset => injection h with h; subst h; exact .reset s
  | rxByte L b => exact rxByte_did h
  | rxTimeout L =>
    injection h with h
    subst h
    rcases rxTimeout_cases L s with ⟨hn, hh⟩ | ⟨hr, hh⟩ <;> rw [hh]
    · exact .nothing _ _ hn
    · exact .reported L s hr
  | rxError L =>
    injection h with h
    subst h
    rcases rxError_cases L s with ⟨hn, hh⟩ | ⟨hr, hh⟩ <;> rw [hh]
    · exact .nothing _ _ hn
    · exact .readError L s hr
  | txError L =>
    injection h with h
    subst h
    rcases txError_cases L s with ⟨hn, hh⟩ | ⟨hd, hr, hh⟩ <;> rw [hh]
    · exact .nothing _ _ hn
    · exact .writeError L s hr hd
  | tick => injection h with h; subst h; exact .ticked s
  | moveToHeight v =>
    injection h with h
    subst h
    rcases moveToHeight_cases v s with ⟨h1, h2, h3, hh⟩ | ⟨r, _, hh⟩ <;> rw [hh]
    · exact .moveAccepted v s h1 h2 h3
    · exact .moveRejected v r s
  | shutdown => injection h with h; subst h; exact .shutdownSet s
  | readCurrentHeight =>
    injection h with h
    subst h
    exact .hostRead _ s _ (.inl rfl) (.inr ⟨_, rfl, fun L => rfl⟩)
  | readCurrentPanelKey =>
    injection h with h
    subst h
    exact .hostRead _ s _ (.inr (.inl rfl)) (.inr ⟨_, rfl, fun L => rfl⟩)
  | readFound L =>
    injection h with h
    subst h
    obtain ⟨env, hh, _, _, ho⟩ := readFound_env L s
    rw [hh]
    exact .hostRead _ s env (.inr (.inr (.inl ⟨L, rfl⟩))) (.inl ho)
  | readDropped L =>
    injection h with h
    subst h
    obtain ⟨env, hh, _, _, ho⟩ := readDropped_env L s
    rw [hh]
    refine .hostRead _ s env (.inr (.inr (.inr ⟨L, rfl⟩))) (ho.imp id ?_)
    rintro ⟨n, m, hn⟩
    exact ⟨_, hn, fun M => rfl⟩
  | agentStep A => exact agentStep_did h

end Sys2Proof.Machine
end

