-- ==== Sys2Proof/Laws/Table.lean ====
section
/-! SUPPORT. The 56-bit words and the rows of opcode_table.json (30_encoding.md R9, R106): words are frames, a row covers a
word exactly when its bytes are the row's, and the decoder written from the table reads what the decoder of a link reads. -/
namespace Sys2Proof

/-! ### Words are frames (R9) -/

/-- Words with the same seven bytes are equal. -/
theorem wordFrame_injective {v w : FrameWord} (h : wordFrame v = wordFrame w) : v = w := by
  simp only [wordFrame, Frame.mk.injEq, BitVec.toNat_eq, BitVec.extractLsb'_toNat, Nat.shiftRight_eq_div_pow] at h
  obtain ⟨h0, h1, h2, h3, h4, h5, h6⟩ := h
  have hv := v.isLt
  have hw := w.isLt
  rw [BitVec.toNat_eq]
  omega

/-- A bit of a word whose lowest byte is `b`. -/
theorem getLsbD_append_byte {n : Nat} (x : BitVec n) (b : Byte) (i : Nat) :
    (x ++ b).getLsbD i = if i < 8 then b.getLsbD i else x.getLsbD (i - 8) := by
  rw [BitVec.getLsbD_append]

/-- The word of a frame has the frame's bytes in their places. -/
@[simp] theorem wordFrame_frameWord (f : Frame) : wordFrame (frameWord f) = f := by
  cases f
  simp only [wordFrame, frameWord, Frame.mk.injEq]
  refine ⟨?_, ?_, ?_, ?_, ?_, ?_, ?_⟩ <;> refine BitVec.eq_of_getLsbD_eq fun i hi => ?_ <;>
    rw [BitVec.getLsbD_extractLsb'] <;> simp only [hi, decide_true, Bool.true_and]
  · iterate 6 rw [getLsbD_append_byte, if_neg (by omega)]
    congr 1
    omega
  · iterate 5 rw [getLsbD_append_byte, if_neg (by omega)]
    rw [getLsbD_append_byte, if_pos (by omega)]
    congr 1
    omega
  · iterate 4 rw [getLsbD_append_byte, if_neg (by omega)]
    rw [getLsbD_append_byte, if_pos (by omega)]
    congr 1
    omega
  · iterate 3 rw [getLsbD_append_byte, if_neg (by omega)]
    rw [getLsbD_append_byte, if_pos (by omega)]
    congr 1
    omega
  · iterate 2 rw [getLsbD_append_byte, if_neg (by omega)]
    rw [getLsbD_append_byte, if_pos (by omega)]
    congr 1
    omega
  · rw [getLsbD_append_byte, if_neg (by omega), getLsbD_append_byte, if_pos (by omega)]
    congr 1
    omega
  · rw [getLsbD_append_byte, if_pos (by omega)]
    congr 1
    omega

@[simp] theorem frameWord_wordFrame (w : FrameWord) : frameWord (wordFrame w) = w :=
  wordFrame_injective (wordFrame_frameWord _)

/-- Masking a word masks its bytes. -/
theorem wordFrame_and (v w : FrameWord) :
    wordFrame (v &&& w) =
      ⟨(wordFrame v).b0 &&& (wordFrame w).b0, (wordFrame v).b1 &&& (wordFrame w).b1, (wordFrame v).b2 &&& (wordFrame w).b2,
       (wordFrame v).b3 &&& (wordFrame w).b3, (wordFrame v).b4 &&& (wordFrame w).b4, (wordFrame v).b5 &&& (wordFrame w).b5,
       (wordFrame v).b6 &&& (wordFrame w).b6⟩ := by
  simp only [wordFrame, BitVec.extractLsb'_and]

/-! ### Rows (R106) -/

/-- Masking a word with a row's mask and comparing with its pattern compares bytes. -/
theorem covers_iff (r : TableRow) (w : FrameWord) : r.covers w = true ↔ wordFrame (w &&& r.mask) = wordFrame r.pattern := by
  rw [TableRow.covers, beq_iff_eq]
  exact ⟨congrArg wordFrame, wordFrame_injective⟩

/-- A known kind's row covers the words that show START, its key byte and END. -/
theorem known_row_covers {r : TableRow} (w : FrameWord) (hm : r.mask = 0xFF00FF000000FF)
    (hp : wordFrame r.pattern = ⟨0x68, 0, (wordFrame r.pattern).b2, 0, 0, 0, 0x16⟩) :
    r.covers w =
      ((wordFrame w).b0 == 0x68 && (wordFrame w).b2 == (wordFrame r.pattern).b2 && (wordFrame w).b6 == 0x16) := by
  have hf : wordFrame 0xFF00FF000000FF = ⟨0xFF, 0, 0xFF, 0, 0, 0, 0xFF⟩ := by decide
  have ones : ∀ b : Byte, b &&& 0xFF = b := fun b => BitVec.and_allOnes
  have zero : ∀ b : Byte, b &&& 0 = 0 := fun b => BitVec.and_zero
  rw [Bool.eq_iff_iff, covers_iff, hm, wordFrame_and, hp, hf]
  simp only [Frame.mk.injEq, ones, zero, true_and, Bool.and_eq_true, beq_iff_eq, and_assoc]

/-- An `Unknown`'s row covers the words that show START and END. -/
theorem unknown_row_covers {r : TableRow} (w : FrameWord) (hm : r.mask = 0xFF0000000000FF)
    (hp : wordFrame r.pattern = ⟨0x68, 0, 0, 0, 0, 0, 0x16⟩) :
    r.covers w = ((wordFrame w).b0 == 0x68 && (wordFrame w).b6 == 0x16) := by
  have hf : wordFrame 0xFF0000000000FF = ⟨0xFF, 0, 0, 0, 0, 0, 0xFF⟩ := by decide
  have ones : ∀ b : Byte, b &&& 0xFF = b := fun b => BitVec.and_allOnes
  have zero : ∀ b : Byte, b &&& 0 = 0 := fun b => BitVec.and_zero
  rw [Bool.eq_iff_iff, covers_iff, hm, wordFrame_and, hp, hf]
  simp only [Frame.mk.injEq, ones, zero, true_and, Bool.and_eq_true, beq_iff_eq]

/-- The kind the key byte alone selects on a link (R101, R102). -/
def kindOfKey (L : Link) (key : Byte) : FrameKind :=
  match L with
  | .desk => if key = 0x00 then .height else .unknownD
  | .panel =>
    if key = 0x01 then .up else if key = 0x02 then .down else if key = 0x03 then .noKey
    else if key = 0x06 then .presetOne else if key = 0x07 then .presetTwo else if key = 0x08 then .presetThree
    else .unknownP

/-- The row of a word: none without START and END, else the one of the kind its key byte selects on the link. -/
theorem selectRow_kind (L : Link) (w : FrameWord) :
    (selectRow L w).map TableRow.kind
      = if (wordFrame w).b0 = 0x68 ∧ (wordFrame w).b6 = 0x16 then some (kindOfKey L (wordFrame w).b2) else none := by
  have rows : ∀ r ∈ tableRows, r.covers w =
      ((wordFrame w).b0 == 0x68 && (r.priority == 1 || (wordFrame w).b2 == (wordFrame r.pattern).b2) &&
        (wordFrame w).b6 == 0x16) := by
    intro r hr
    simp only [tableRows, List.mem_cons, List.not_mem_nil, or_false] at hr
    rcases hr with rfl | rfl | rfl | rfl | rfl | rfl | rfl | rfl | rfl
    case inr.inl => rw [unknown_row_covers w rfl (by decide)]; simp
    case inr.inr.inr.inr.inr.inr.inr.inr => rw [unknown_row_covers w rfl (by decide)]; simp
    all_goals exact known_row_covers w rfl (by decide)
  have sel : tableRows.filter (fun r => r.link == L && r.covers w) = tableRows.filter (fun r => r.link == L &&
      ((wordFrame w).b0 == 0x68 && (r.priority == 1 || (wordFrame w).b2 == (wordFrame r.pattern).b2) &&
        (wordFrame w).b6 == 0x16)) :=
    List.filter_congr fun r hr => by rw [rows r hr]
  simp only [selectRow, sel]
  generalize (wordFrame w).b0 = b0, (wordFrame w).b2 = key, (wordFrame w).b6 = b6
  by_cases h : b0 = 0x68 ∧ b6 = 0x16
  · obtain ⟨rfl, rfl⟩ := h
    revert key
    cases L <;> decide
  · have none_covers : ∀ p, (b0 == 0x68 && p && b6 == 0x16) = false := fun p =>
      Bool.eq_false_iff.2 fun ht => by
        rw [Bool.and_eq_true, Bool.and_eq_true, beq_iff_eq, beq_iff_eq] at ht
        exact h ⟨ht.1.1, ht.2⟩
    simp only [none_covers, Bool.and_false, List.filter_false, List.find?_nil, Option.map_none, if_neg h]

/-! ### The decoder written from the table (R106) -/

/-- On a valid frame of a link, the operands the table's columns name are those the link's decoder reads. -/
theorem read_kindOfKey (L : Link) (f : Frame) : (kindOfKey L f.b2).read f = instrOfFrame L f := by
  cases L with
  | desk =>
    simp only [kindOfKey, instrOfFrame, decD2P]
    split <;> rfl
  | panel =>
    simp only [kindOfKey, instrOfFrame, decP2D]
    repeat' split
    all_goals rfl

/-- The decoder written from the rows of the table reads, on each link, exactly what the decoder of the link reads: the
link's row with the least priority number, its constraint tested, its operands (R103, R106, R107). -/
theorem decodeByTable_some_iff (L : Link) (w : FrameWord) (i : Instr) :
    decodeByTable L w = some i ↔ decodeWord L w = .ok i := by
  rw [decodeWord, decodeFrame_ok_iff, frameValid_iff]
  have hk := selectRow_kind L w
  unfold decodeByTable
  cases hs : selectRow L w with
  | none =>
    rw [hs] at hk
    split at hk
    · cases hk
    · next hn => exact ⟨fun h => (nomatch h), fun h => absurd ⟨h.1.1, h.1.2.1⟩ hn⟩
  | some r =>
    rw [hs] at hk
    split at hk
    · next hc =>
      rw [Option.map_some, Option.some.injEq] at hk
      simp only [hk, read_kindOfKey, tableConstraint, beq_iff_eq]
      split
      · next h5 => exact ⟨fun h => ⟨⟨hc.1, hc.2, h5⟩, Option.some.inj h⟩, fun h => congrArg some h.2⟩
      · next h5 => exact ⟨fun h => (nomatch h), fun h => absurd h.1.2.2 h5⟩
    · cases hk

/-- A frame's word decodes as the frame does. -/
theorem decodeWord_frameWord (L : Link) (f : Frame) : decodeWord L (frameWord f) = decodeFrame L f := by
  rw [decodeWord, wordFrame_frameWord]

end Sys2Proof
end

