-- ==== Sys2Proof/Tests/Slice0.lean ====
section
/-! SUPPORT. The author's own tests. Expected results are the spec's: the words of 95_test_vectors.md sections 3 to 5 and
small one-step cases worked by hand from the cited rules. The `test_witness_…` theorems show states and operands that meet
the hypotheses of the obligations. -/
namespace Sys2Proof.Tests
open Sys2Proof.Machine

/-! ### WellFormed: an ill-formed term for each check (40_codec.md R140, R157, R159, R131) -/

theorem test_wf_height_low : (Instr.height 649).wellFormed = false := by decide
theorem test_wf_height_high : (Instr.height 66186).wellFormed = false := by decide
theorem test_wf_height_ends : (Instr.height 650).wellFormed = true ∧ (Instr.height 66185).wellFormed = true := by decide
theorem test_wf_preset_high :
    (Instr.presetOne 65536).wellFormed = false ∧ (Instr.presetTwo 65536).wellFormed = false ∧
    (Instr.presetThree 65536).wellFormed = false := by decide
theorem test_wf_unknownD_key : (Instr.unknownD 1 0 0 0 1).wellFormed = false := by decide
theorem test_wf_unknownD_sum : (Instr.unknownD 1 5 0x12 0x34 0x4D).wellFormed = false := by decide
theorem test_wf_unknownP_keys :
    ∀ b ∈ ([1, 2, 3, 6, 7, 8] : List Byte), (Instr.unknownP 1 b 0 0 (1 + b)).wellFormed = false := by decide
theorem test_wf_unknownP_sum : (Instr.unknownP 1 10 0 0 99).wellFormed = false := by decide
theorem test_wf_keys :
    Instr.up.wellFormed = true ∧ Instr.down.wellFormed = true ∧ Instr.noKey.wellFormed = true := by decide

/-! ### Decoding words written out from the encodings (95_test_vectors.md sections 3 and 4) -/

theorem test_decode_height : decodeBytes .desk [0x68, 0x01, 0x00, 0x01, 0x5E, 0x60, 0x16] = .ok (.height 1000) := by decide
theorem test_decode_unknownD :
    decodeBytes .desk [0x68, 0x69, 0x16, 0x68, 0x01, 0xE8, 0x16] = .ok (.unknownD 0x69 0x16 0x68 1 0xE8) := by decide
theorem test_decode_up : decodeBytes .panel [0x68, 0x02, 0x01, 0x55, 0xAA, 0x02, 0x16] = .ok .up := by decide
theorem test_decode_down : decodeBytes .panel [0x68, 0x01, 0x02, 0x00, 0x00, 0x03, 0x16] = .ok .down := by decide
theorem test_decode_noKey : decodeBytes .panel [0x68, 0x01, 0x03, 0x00, 0x00, 0x04, 0x16] = .ok .noKey := by decide
theorem test_decode_presetOne :
    decodeBytes .panel [0x68, 0x01, 0x06, 0x02, 0x8A, 0x93, 0x16] = .ok (.presetOne 35330) := by decide
theorem test_decode_presetTwo :
    decodeBytes .panel [0x68, 0x01, 0x07, 0xB0, 0x04, 0xBC, 0x16] = .ok (.presetTwo 1200) := by decide
theorem test_decode_presetThree :
    decodeBytes .panel [0x68, 0x01, 0x08, 0xFF, 0xFF, 0x07, 0x16] = .ok (.presetThree 65535) := by decide
theorem test_decode_unknownP :
    decodeBytes .panel [0x68, 0x01, 0x00, 0x01, 0x5E, 0x60, 0x16] = .ok (.unknownP 1 0 1 0x5E 0x60) := by decide
theorem test_decode_refuses :
    decodeBytes .panel [0x68, 0x01, 0x01, 0x00, 0x00, 0x03, 0x16] = .error .badChecksum ∧
    decodeBytes .panel [] = .error .wrongLength := by decide
theorem test_decode_table_words :
    decodeTableWord 56 0x68010000000116 = some (.height 650) ∧
    decodeTableWord 56 0x68010100000216 = some .up ∧
    decodeTableWord 56 0x68010A00000B16 = some (.unknownD 1 10 0 0 11) ∧
    decodeTableWord 56 0x67010100000216 = none := by decide

/-- Words written out from R9, R101, R102 and R106, each read on a given link with every byte as the word has it. -/
theorem test_decode_words :
    decodeWord .panel 0x68010A00000B16 = .ok (.unknownP 1 10 0 0 11) ∧
    decodeWord .desk 0x68010100000216 = .ok (.unknownD 1 1 0 0 2) ∧
    decodeWord .desk 0x68010001005E16 = .error .badChecksum ∧
    decodeWord .panel 0x68010800000916 = .ok (.presetThree 0) := by decide
theorem test_decode_by_table :
    decodeByTable .panel 0x68010A00000B16 = some (.unknownP 1 10 0 0 11) ∧
    decodeByTable .desk 0x68010100000216 = some (.unknownD 1 1 0 0 2) ∧
    decodeByTable .desk 0x68010001005E16 = none ∧ decodeByTable .panel 0x67010100000216 = none := by decide

/-! ### One step each -/

/-- Reset, with six bytes accepted on the desk link. -/
def deskFilled (b1 b2 b3 b4 b5 : Byte) : State :=
  State.reset.setLink .desk { LinkState.reset with buf := ⟨0x68, b1, b2, b3, b4, b5, 0⟩, pos := 6 }

/-- Reset, with six bytes accepted on the panel link. -/
def panelFilled (b1 b2 b3 b4 b5 : Byte) : State :=
  State.reset.setLink .panel { LinkState.reset with buf := ⟨0x68, b1, b2, b3, b4, b5, 0⟩, pos := 6 }

/-- What a test looks at in the next state; `none` if there is none. -/
def after {α : Type} (o : Host.Outcome State Fault Refusal) (look : State → α) : Option α :=
  match o with
  | .next s => some (look s)
  | .fault _ => none
  | .refused _ => none

/-- R200: the height and the queue. -/
theorem test_height : after (exec (.height 1000) State.reset) (fun s => (s.currentHeight, s.d2pQ))
    = some (1000, [.height 1000]) := by decide
/-- R200: no height in an `UnknownD`. -/
theorem test_unknownD : after (exec (.unknownD 1 5 0 0 6) State.reset) (fun s => (s.currentHeight, s.d2pQ))
    = some (0, [.unknownD 1 5 0 0 6]) := by decide
/-- R180, for the seven panel kinds. -/
theorem test_panel_kinds :
    ∀ m ∈ [P2D.up, .down, .noKey, .presetOne 650, .presetTwo 1200, .presetThree 725, .unknownP 1 10 0 0 11],
      after (exec m.instr State.reset) (fun s => (s.panelQ, s.panel.frameCount)) = some ([m], 1) := by decide
/-- R174: the 7th byte. -/
theorem test_seventh_byte :
    after (act (.rxByte .panel 0x16) (panelFilled 1 1 0 0 2)) (fun s => (s.panelQ, s.panel.pos)) = some ([.up], 0) := by
  decide
/-- R175: a wrong END, seven bytes dropped. -/
theorem test_seventh_byte_bad :
    after (act (.rxByte .panel 0x17) (panelFilled 1 1 0 0 2)) (fun s => (s.panelQ, s.panel.dropAcc)) = some ([], 7) := by
  decide
/-- Vector S8's window: a desk frame with an unassigned key. -/
theorem test_desk_window :
    after (act (.rxByte .desk 0x16) (deskFilled 0x69 0x16 0x68 0x01 0xE8)) (fun s => s.d2pQ)
      = some [.unknownD 0x69 0x16 0x68 1 0xE8] := by decide
/-- Table N, rows 3, 8, 9, 10, 11, 14, 19, 21. -/
theorem test_table_N :
    nextCommand none (some 600) 700 = some ⟨.down, 1, false⟩ ∧ nextCommand none (some 1000) 994 = some ⟨.up, 1, false⟩ ∧
    nextCommand none (some 1000) 995 = some ⟨.noKey, 200, true⟩ ∧
    nextCommand none (some 1000) 1005 = some ⟨.noKey, 200, true⟩ ∧
    nextCommand none (some 1000) 1006 = some ⟨.down, 1, false⟩ ∧
    nextCommand (some .down) (some 1000) 700 = some ⟨.down, 1, false⟩ ∧
    nextCommand none (some 3) 0 = some ⟨.noKey, 200, true⟩ ∧ nextCommand none (some 0) 6 = some ⟨.down, 1, false⟩ := by
  decide
/-- Table M. -/
theorem test_table_M :
    [645, 1300, 1003, 1000, 1295, 650, 649, 1296, 651, 655, 0].map (fun h => (validateMove h).code)
      = [1, 1, 2, 0, 0, 0, 1, 1, 2, 0, 1] := by decide
/-- R246: a Running agent halts on `shutdown`. -/
theorem test_halt :
    after (act (.agentStep .debouncer) { State.reset with shutdown := true }) (fun s => s.run.debouncer)
      = some .halted := by decide
/-- R285: the producer is gone. -/
theorem test_channel_receive :
    after (act (.agentStep .debouncer) (State.reset.raise .panelReader .portRead)) (fun s => (s.run.debouncer, s.cause.debouncer))
      = some (.faulted, .channelReceive) := by decide
/-- R284: a failing transmission. -/
theorem test_tx_error :
    after (act (.txError .desk) { State.reset with clState := .writing, txRemaining := 3 })
      (fun s => (s.run.controlLoop, s.cause.controlLoop, s.txRemaining)) = some (.faulted, .portWrite, 3) := by decide
/-- R200 and R285: `current_height` keeps the received height although the push faults the reader. -/
theorem test_channel_send :
    after (exec (.height 1000) (State.reset.raise .panelWriter .portWrite))
      (fun s => (s.currentHeight, s.run.deskReader, s.cause.deskReader, s.d2pQ))
      = some (1000, .faulted, .channelSend, []) := by decide

/-- R113: a `RUN` is implied after every line, a `FAILTX` and a `TICK 0` too, and after `MANUAL` after none. -/
theorem test_script_implied_run :
    [[ScriptLine.failTx .desk], [.failTx .panel], [.tick 0], [.manual, .tick 0], [.manual, .run]].map
      (fun lines => (runScript 3 lines { State.reset with wake := true }).wake) = [false, false, false, true, false] := by
  decide
/-- R113, R284: the `RUN` implied after `FAILTX desk` already takes the `TX_ERROR` in place of a `TX` that is due. -/
theorem test_script_failtx :
    (runScript 3 [.failTx .desk] { State.reset with clState := .writing, txRemaining := 3 }).cause.controlLoop
      = .portWrite := by decide

/-! ### The hypotheses of the obligations can be met -/

/-- The control loop in the middle of a burst whose repetitions are all sent. -/
def writing (clears resignal : Bool) : State :=
  { State.reset with clState := .writing, txClears := clears, txResignal := resignal, txFrame := ⟨0x68, 1, 1, 0, 0, 2, 0x16⟩ }

theorem test_witness_PresetEncodersAreLittleEndian :
    ((0 : Mm).toNat ≤ 65535 ∧ (0 : Byte).toNat = (0 : Mm).toNat % 256 ∧ (0 : Byte).toNat = (0 : Mm).toNat / 256) ∧
    ((65535 : Mm).toNat ≤ 65535 ∧ (255 : Byte).toNat = (65535 : Mm).toNat % 256 ∧
      (255 : Byte).toNat = (65535 : Mm).toNat / 256) := by decide

theorem test_witness_HeightEncoderIsBigEndian :
    (650 ≤ (650 : Mm).toNat ∧ (650 : Mm).toNat ≤ 66185 ∧ (0 : Byte).toNat = ((650 : Mm).toNat - 650) / 256 ∧
      (0 : Byte).toNat = ((650 : Mm).toNat - 650) % 256) ∧
    (650 ≤ (66185 : Mm).toNat ∧ (66185 : Mm).toNat ≤ 66185 ∧ (255 : Byte).toNat = ((66185 : Mm).toNat - 650) / 256 ∧
      (255 : Byte).toNat = ((66185 : Mm).toNat - 650) % 256) := by decide

theorem test_witness_EncodersRefuseExactlyOutOfRange :
    let s : State := { State.reset with d2pQ := [.height 649] }
    s.run.panelWriter = .running ∧ s.shutdown = false ∧ s.pwState = .idle ∧ s.d2pQ = .height 649 :: [] ∧
    encD2P (.height 649) = none := by decide

theorem test_witness_DecodersSelectByKeyByte :
    (0x09 : Byte) ∉ [0x01, 0x02, 0x03, 0x06, 0x07, 0x08] ∧ (0x00 : Byte) ∉ [0x01, 0x02, 0x03, 0x06, 0x07, 0x08] ∧
    (0x01 : Byte) ≠ 0x00 ∧ (0xFF : Byte) ≠ 0x00 := by decide

theorem test_witness_DecodersReadOnlyWhatTheKindNeeds :
    let f : Frame := ⟨0x68, 1, 6, 5, 6, 7, 0x16⟩
    let g : Frame := ⟨0, 2, 6, 5, 6, 9, 0⟩
    f.b2 = g.b2 ∧ f.b2 ∈ [0x06, 0x07, 0x08] ∧ f.b3 = g.b3 ∧ f.b4 = g.b4 ∧ f ≠ g := by decide

theorem test_witness_MessagesRoundTrip :
    (P2D.presetThree 65535).inRange = true ∧ (P2D.unknownP 1 4 0 0 5).inRange = true ∧
    (4 : Byte) ∉ [0x01, 0x02, 0x03, 0x06, 0x07, 0x08] ∧ (D2P.height 650).inRange = true ∧
    (D2P.height 66185).inRange = true ∧ (D2P.unknownD 1 1 0 0 2).inRange = true ∧ (1 : Byte) ≠ 0x00 := by decide

theorem test_witness_InstructionsRoundTrip :
    (Instr.height 66185).wellFormed = true ∧ (Instr.unknownD 1 5 0x12 0x34 0x4C).wellFormed = true ∧
    (Instr.presetTwo 65535).wellFormed = true ∧ (Instr.unknownP 1 9 0 0 10).wellFormed = true := by decide

theorem test_witness_FramesRoundTripExactly :
    frameValid ⟨0x68, 2, 1, 0x55, 0xAA, 2, 0x16⟩ = true ∧ frameValid ⟨0x68, 0, 0, 0, 0, 0, 0x16⟩ = true := by decide

theorem test_witness_DecodersYieldWellFormedInstructions :
    frameValid ⟨0x68, 2, 1, 0x55, 0xAA, 2, 0x16⟩ = true ∧
    decodeFrame .panel ⟨0x68, 2, 1, 0x55, 0xAA, 2, 0x16⟩ = .ok .up ∧
    decodeFrame .desk ⟨0x68, 0, 0, 0, 0, 0, 0x16⟩ = .ok (.height 650) := by decide

theorem test_witness_UnknownsWithKnownKeysAlias : (0x03 : Byte) ∈ [0x01, 0x02, 0x03, 0x06, 0x07, 0x08] := by decide

theorem test_witness_KnownKindsEncodeToValidFrames :
    encP2D (.presetOne 650) = some ⟨0x68, 1, 6, 0x8A, 2, 0x93, 0x16⟩ ∧ (P2D.presetOne 650).instr = .presetOne 650 ∧
    encD2P (.height 905) = some ⟨0x68, 1, 0, 0, 0xFF, 0, 0x16⟩ := by decide

theorem test_witness_StepTakesTheNextEvent :
    (State.reset.withPending [.tick, .shutdown]).env.pending = .tick :: [.shutdown] ∧ State.reset.env.pending = [] := by
  decide

theorem test_witness_StepRunsTheDecodedInstruction :
    let s := (panelFilled 1 6 0x8A 2 0x93).withPending [.rxByte .panel 0x16]
    s.env.pending = .rxByte .panel 0x16 :: [] ∧ s.run.get (readerOf .panel) = .running ∧ (s.link .panel).pos = 6 ∧
    decodeFrame .panel ⟨(s.link .panel).buf.b0, (s.link .panel).buf.b1, (s.link .panel).buf.b2, (s.link .panel).buf.b3,
      (s.link .panel).buf.b4, (s.link .panel).buf.b5, 0x16⟩ = .ok (.presetOne 650) := by decide

theorem test_witness_TableWordRunsNext : decodeTableWord 56 0x68010806FF0E16 = some (.presetThree 65286) := by decide

theorem test_witness_PendingEventsRunInOrder :
    ∃ t, runEvents [.tick, .rxByte .desk 0, .shutdown] State.reset = .next t := ⟨_, rfl⟩

theorem test_witness_BytesAreConserved :
    ∃ t, runEvents [.tick, .rxByte .desk 0, .shutdown] State.reset = .next t ∧ t.run.get (readerOf .desk) = .running ∧
      Event.reset ∉ [Event.tick, .rxByte .desk 0, .shutdown] := ⟨_, rfl, rfl, by decide⟩

theorem test_witness_DeskFramesAreRelayed :
    (State.reset.run.deskReader = .running ∧ State.reset.run.panelWriter = .running) ∧
    ((State.reset.halt .panelWriter).run.deskReader = .running ∧
      (State.reset.halt .panelWriter).run.panelWriter ≠ .running) := by decide

theorem test_witness_PanelFramesAreQueued :
    (State.reset.run.panelReader = .running ∧ State.reset.run.debouncer = .running) ∧
    ((State.reset.halt .debouncer).run.panelReader = .running ∧
      (State.reset.halt .debouncer).run.debouncer ≠ .running) ∧
    (∃ h, P2D.presetTwo 65535 = .presetTwo h ∧ Instr.presetTwo 65535 = .presetTwo h) :=
  ⟨by decide, by decide, ⟨_, rfl, rfl⟩⟩

theorem test_witness_StoppedReadersIgnoreFrames :
    (State.reset.halt .deskReader).run.get (readerOf (Instr.height 650).link) ≠ .running ∧
    (State.reset.raise .panelReader .portRead).run.get (readerOf Instr.up.link) ≠ .running := by decide

theorem test_witness_SeekingAndFilling :
    (State.reset.link .desk).pos = 0 ∧ State.reset.run.get (readerOf .desk) = .running ∧ (0x67 : Byte) ≠ 0x68 ∧
    (1 ≤ (1 : Fin 7).val ∧ (1 : Fin 7).val ≤ 5) ∧ (1 ≤ (5 : Fin 7).val ∧ (5 : Fin 7).val ≤ 5) := by decide

theorem test_witness_CorruptCandidateIsDiscarded :
    let s := panelFilled 1 1 0 0 3
    s.run.get (readerOf .panel) = .running ∧ (s.link .panel).pos = 6 ∧
    frameValid { (s.link .panel).buf with b6 := 0x16 } = false := by decide

theorem test_witness_TimeoutReportsDrops :
    (State.reset.setLink .desk { LinkState.reset with dropAcc := 2 }).run.get (readerOf .desk) = .running := by decide

theorem test_witness_ReadErrorFaultsTheReader :
    State.reset.run.get (readerOf .panel) = .running ∧
    (State.reset.halt .panelReader).run.get (readerOf .panel) ≠ .running := by decide

theorem test_witness_WholeFrameIsReceived :
    State.reset.run.get (readerOf .desk) = .running ∧ (State.reset.link .desk).pos = 0 ∧
    decodeFrame .desk ⟨0x68, 1, 0, 0xFF, 0xFF, 0xFF, 0x16⟩ = .ok (.height 66185) := by decide

theorem test_witness_RejectedCandidateIsGone :
    State.reset.run.get (readerOf .panel) = .running ∧ (State.reset.link .panel).pos = 0 ∧
    (⟨0x68, 0x68, 1, 1, 0, 0, 2⟩ : Frame).b0 = 0x68 ∧ frameValid ⟨0x68, 0x68, 1, 1, 0, 0, 2⟩ = false := by decide

theorem test_witness_NoiseIsDiscardedByteByByte :
    State.reset.run.get (readerOf .panel) = .running ∧ (State.reset.link .panel).pos = 0 ∧
    (∀ b ∈ [0x00, 0xFF, (0x16 : Byte)], b ≠ 0x68) := by decide

/-- The frames of 95_test_vectors.md S1, on either link. -/
theorem test_witness_SynchronizerTest :
    (∀ L, State.reset.run.get (readerOf L) = .running ∧ (State.reset.link L).pos = 0 ∧ (State.reset.link L).dropAcc = 0) ∧
    State.reset.run.panelWriter = .running ∧ State.reset.run.debouncer = .running ∧
    frameValid ⟨0x68, 1, 1, 0, 0, 2, 0x16⟩ = true ∧ frameValid ⟨0x68, 1, 2, 0, 0, 3, 0x16⟩ = true ∧
    (3 : Byte) ≠ checksum 1 1 0 0 := by
  refine ⟨fun L => ?_, by decide, by decide, by decide, by decide, by decide⟩
  cases L <;> decide

theorem test_witness_LinksAreIndependent :
    Link.panel ≠ Link.desk ∧ (∃ t, act (.rxByte .desk 0x68) State.reset = .next t) ∧
    (∃ t, act (.rxTimeout .desk) State.reset = .next t) ∧ (∃ t, act (.rxError .desk) State.reset = .next t) :=
  ⟨by decide, ⟨_, rfl⟩, ⟨_, rfl⟩, ⟨_, rfl⟩⟩

theorem test_witness_PanelWriterSteps :
    (let s : State := { State.reset with d2pQ := [.height 650] }
     s.run.panelWriter = .running ∧ s.shutdown = false ∧ s.pwState = .idle ∧ s.d2pQ = .height 650 :: [] ∧
     encD2P (.height 650) = some ⟨0x68, 1, 0, 0, 0, 1, 0x16⟩) ∧
    (let s : State := { State.reset with pwState := .writing, pwRemaining := 1 }
     s.run.panelWriter = .running ∧ s.shutdown = false ∧ s.pwState = .writing ∧ s.pwRemaining ≠ 0 ∧ s.pwGap = 0) ∧
    (let s : State := { State.reset with pwState := .writing }
     s.pwState = .writing ∧ s.pwRemaining = 0 ∧ s.pwGap = 0) := by decide

theorem test_witness_DebouncerTakesAndExpires :
    (let s : State := { State.reset with panelQ := [.up] }
     s.run.debouncer = .running ∧ s.shutdown = false ∧ s.panelQ = .up :: []) ∧
    (let s : State := { State.reset with debTimer := 1000 }
     s.panelQ = [] ∧ s.run.panelReader = .running ∧ 1000 ≤ s.debTimer.toNat) := by decide

theorem test_witness_SilenceForcesNone :
    (State.reset.run.debouncer = .running ∧ State.reset.run.panelReader = .running ∧ State.reset.shutdown = false ∧
      State.reset.panelQ = [] ∧ State.reset.debTimer = 0) ∧ 1000 ≤ 1000 ∧ 999 < 1000 := by decide

theorem test_witness_WaitingOnAGoneProducerFaults :
    (let s := State.reset.raise .deskReader .portRead
     s.run.panelWriter = .running ∧ s.pwState = .idle ∧ s.d2pQ = [] ∧ s.run.deskReader ≠ .running ∧ s.shutdown = false ∧
     (shutdownBlock s).run.panelWriter = .running ∧ (shutdownBlock s).shutdown = true) ∧
    (let s := State.reset.raise .panelReader .portRead
     s.run.debouncer = .running ∧ s.panelQ = [] ∧ s.run.panelReader ≠ .running ∧ s.shutdown = false ∧
     (shutdownBlock s).run.debouncer = .running ∧ (shutdownBlock s).shutdown = true) := by decide

/-- The ends of the window around 700 mm, and a target below it where `t - 5` is negative. -/
theorem test_witness_NextCommandCases :
    P2D.unknownP 1 3 0 0 4 ≠ .noKey ∧
    (((700 : Mm).toNat : Int) - 5 ≤ (695 : Mm).toNat ∧ ((705 : Mm).toNat : Int) ≤ (700 : Mm).toNat + 5) ∧
    ((694 : Mm).toNat : Int) < (700 : Mm).toNat - 5 ∧ ((706 : Mm).toNat : Int) > (700 : Mm).toNat + 5 ∧
    (((3 : Mm).toNat : Int) - 5 ≤ (0 : Mm).toNat ∧ ((0 : Mm).toNat : Int) ≤ (3 : Mm).toNat + 5) := by decide

theorem test_witness_ControlLoopEvaluates :
    (let s : State := { State.reset with shutdown := true }
     s.run.controlLoop = .running ∧ s.clState = .waiting ∧ s.shutdown = true) ∧
    (let s : State := { State.reset with idleTimer := 10000 }
     s.shutdown = false ∧ (s.wake = true ∨ 10000 ≤ s.idleTimer.toNat) ∧
     nextCommand s.currentPanelKey s.targetHeight s.currentHeight = none) ∧
    (let s : State := { State.reset with wake := true, targetHeight := some 1000, currentHeight := 700 }
     s.shutdown = false ∧ (s.wake = true ∨ 10000 ≤ s.idleTimer.toNat) ∧
     nextCommand s.currentPanelKey s.targetHeight s.currentHeight = some ⟨.up, 1, false⟩ ∧
     encP2D .up = some ⟨0x68, 1, 1, 0, 0, 2, 0x16⟩) := by decide

theorem test_witness_ControlLoopTransmits :
    (let s : State := { writing true false with txRemaining := 200 }
     s.run.controlLoop = .running ∧ s.clState = .writing ∧ s.shutdown = false ∧ s.txRemaining ≠ 0 ∧ s.txGap = 0) := by
  decide

theorem test_witness_ControlLoopCompletes :
    (∀ s ∈ [writing true false, { writing false true with targetHeight := some 1000 }, writing false true],
      s.run.controlLoop = .running ∧ s.clState = .writing ∧ s.shutdown = false ∧ s.txRemaining = 0 ∧ s.txGap = 0) ∧
    (writing true false).txClears = true ∧
    (let s : State := { writing false true with targetHeight := some 1000 }
     s.txClears = false ∧ s.txResignal = true ∧ s.targetHeight ≠ none) ∧
    ((writing false true).txClears = false ∧ ((writing false true).txResignal = false ∨
      (writing false true).targetHeight = none)) := by decide

theorem test_witness_TargetSetDuringBurstIsLost :
    (let s := writing true false
     s.run.controlLoop = .running ∧ s.shutdown = false ∧ s.clState = .writing ∧ s.txClears = true ∧
     s.txRemaining = 0 ∧ s.txGap = 0) ∧
    (650 ≤ 650 ∧ 650 ≤ 1295 ∧ 650 % 5 = 0) ∧ (650 ≤ 1295 ∧ 1295 ≤ 1295 ∧ 1295 % 5 = 0) := by decide

/-- A repetition is sent, the write completes, another event passes by. -/
theorem test_witness_WriteSendsEachRepetitionOnce :
    (writing true false).clState = .writing ∧ Event.agentStep .controlLoop ≠ .reset ∧
    (∃ t, act (.agentStep .controlLoop) { writing true false with txRemaining := 1 } = .next t) ∧
    (∃ t, act (.agentStep .controlLoop) (writing true false) = .next t) ∧
    (∃ t, act .tick (writing true false) = .next t) := ⟨rfl, by decide, ⟨_, rfl⟩, ⟨_, rfl⟩, ⟨_, rfl⟩⟩

theorem test_witness_RepetitionsAreSpaced :
    ∃ t, ({ writing true false with txGap := 2, txRemaining := 1 } : State).clState = .writing ∧
      Event.reset ∉ [Event.tick, .agentStep .controlLoop] ∧
      [Event.tick, .agentStep .controlLoop].count .tick
        < ({ writing true false with txGap := 2, txRemaining := 1 } : State).txGap ∧
      runEvents [.tick, .agentStep .controlLoop] { writing true false with txGap := 2, txRemaining := 1 } = .next t :=
  ⟨_, rfl, by decide, by decide, rfl⟩

theorem test_witness_ShutdownHaltsEveryAgent :
    ∀ A, ({ State.reset with shutdown := true } : State).shutdown = true ∧
      ({ State.reset with shutdown := true } : State).run.get A = .running := by
  intro A
  cases A <;> decide

theorem test_witness_MoveToHeightValidates :
    (649 < 650 ∨ 1295 < 649) ∧ (1296 < 650 ∨ 1295 < 1296) ∧ (650 ≤ 651 ∧ 651 ≤ 1295 ∧ 651 % 5 ≠ 0) ∧
    (650 ≤ 650 ∧ 650 ≤ 1295 ∧ 650 % 5 = 0 ∧ (650 : Mm).toNat = 650) ∧
    (650 ≤ 1295 ∧ 1295 ≤ 1295 ∧ 1295 % 5 = 0 ∧ (1295 : Mm).toNat = 1295) := by decide

theorem test_witness_HostReadsReturnTheRegisters :
    (readFound .desk State.reset).env.deskFound = some 0 ∧ (readFound .panel State.reset).env.panelFound = some 0 := by decide

theorem test_witness_TickMovesTheTimers :
    ((999 : DebTicks).toNat < 1000 ∧ 1000 ≤ (1000 : DebTicks).toNat) ∧
    ((9999 : IdleTicks).toNat < 10000 ∧ 10000 ≤ (10000 : IdleTicks).toNat) := by decide

theorem test_witness_EveryChangeNotifies :
    (∃ t, act (.moveToHeight 700) State.reset = .next t ∧ t.targetHeight ≠ State.reset.targetHeight ∧
      State.reset.wake = false ∧ t.wake = true) ∧
    (∃ t, act (.agentStep .controlLoop) { State.reset with wake := true } = .next t ∧ t.wake = false) ∧
    (∃ t, act (.agentStep .debouncer) { State.reset with panelQ := [.up] } = .next t ∧ t.currentPanelKey ≠ none) :=
  ⟨⟨_, rfl, by decide, rfl, rfl⟩, ⟨_, rfl, rfl⟩, ⟨_, rfl, by decide⟩⟩

theorem test_witness_RegistersHaveTheirWriters :
    (∃ t, act (.rxByte .desk 0x16) (deskFilled 1 0 0 0 1) = .next t ∧ t.currentHeight ≠ 0 ∧ t.d2pQ ≠ [] ∧
      t.link .desk ≠ (deskFilled 1 0 0 0 1).link .desk) ∧
    (∃ t, act (.agentStep .controlLoop) { writing true false with targetHeight := some 700 } = .next t ∧
      t.targetHeight = none) ∧
    (∃ t, act (.agentStep .controlLoop) { writing true false with txRemaining := 1 } = .next t ∧
      t.sent .desk = [⟨0x68, 1, 1, 0, 0, 2, 0x16⟩]) ∧
    (∃ t, act .shutdown State.reset = .next t ∧ t.shutdown ≠ State.reset.shutdown) :=
  ⟨⟨_, rfl, by decide, by decide, by decide⟩, ⟨_, rfl, rfl⟩, ⟨_, rfl, rfl⟩, ⟨_, rfl, by decide⟩⟩

theorem test_witness_StopsLastUntilReset :
    ∃ t, act .tick (State.reset.raise .deskReader .portRead) = .next t ∧ Event.tick ≠ .reset ∧
      (State.reset.raise .deskReader .portRead).run.get .deskReader ≠ .running := ⟨_, rfl, by decide, by decide⟩

/-- Both sides of `TurnsActExactlyWhenEnabled` occur, and each of its four waits at the last tick before its end. -/
theorem test_witness_TurnsActExactlyWhenEnabled :
    (State.reset.enabled .controlLoop = false ∧ ({ State.reset with wake := true } : State).enabled .controlLoop = true) ∧
    (let s : State := { State.reset with pwState := .writing, pwGap := 1 }
     s.shutdown = false ∧ s.pwState = .writing ∧ s.pwGap ≠ 0) ∧
    (let s : State := { State.reset with debTimer := 999 }
     s.shutdown = false ∧ s.panelQ = [] ∧ s.run.panelReader = .running ∧ s.debTimer.toNat < 1000) ∧
    (let s : State := { State.reset with idleTimer := 9999 }
     s.shutdown = false ∧ s.clState = .waiting ∧ s.wake = false ∧ s.idleTimer.toNat < 10000) ∧
    (let s : State := { writing true false with txGap := 1 }
     s.shutdown = false ∧ s.clState = .writing ∧ s.txGap ≠ 0) := by decide

/-- A state other than reset that meets the invariant: a frame half received, a target pending, a burst under way. -/
def busy : State :=
  { (panelFilled 1 1 0 0 2).withPending [.rxByte .panel 0x16] with
    targetHeight := some 1000, currentHeight := 1000, clState := .writing, txRemaining := 200, txClears := true,
    txFrame := ⟨0x68, 1, 3, 0, 0, 4, 0x16⟩, d2pQ := [.height 1000] }

/-- For `StepKeepsTheInvariant`, `StepNeverRefuses`, `SentFramesAreValid`, `PanelReceivesInOrder`. -/
theorem test_witness_Invariant : busy.Inv ∧ (∃ t, step busy = .next t) ∧ (∃ t, act (.agentStep .panelWriter) busy = .next t) := by
  refine ⟨?_, ⟨_, rfl⟩, ⟨_, rfl⟩⟩
  refine { deskFilling := fun h => absurd rfl h, panelFilling := fun _ => rfl, waitingNothingLeft := by decide, idleNothingLeft := by decide,
           legalTarget := ?_, legalHeight := by decide, debRange := by decide, idleRange := by decide,
           txRemainingRange := by decide, pwRemainingRange := by decide, txGapRange := Nat.zero_le _,
           pwGapRange := Nat.zero_le _, keyDecoded := ?_, panelQDecoded := ?_, d2pQDecoded := by decide,
           txFrameValid := by decide, pwFrameValid := by decide, causeOfFault := ?_ }
  · rintro t ⟨⟩
    decide
  · rintro m ⟨⟩
  · rintro m ⟨⟩
  · intro A
    cases A <;> decide

/-- A step out of a state with `PursuitAwake` and a pending target. -/
theorem test_witness_PursuitStaysAwake :
    busy.PursuitAwake ∧ busy.targetHeight ≠ none ∧ ∃ t, step busy = .next t :=
  ⟨fun _ _ _ => ⟨rfl, .inr rfl⟩, by decide, ⟨_, rfl⟩⟩

/-- A quiet state other than reset, events that act on it, and a run from reset. -/
theorem test_witness_NothingIsSentSpontaneously :
    ({ State.reset with wake := true, currentHeight := 1000 } : State).Quiet ∧
    (∀ e ∈ [Event.agentStep .controlLoop, .tick, .shutdown, .txError .panel, .rxError .desk, .rxTimeout .panel],
      bringsNothing e = true ∧ (after (act e { State.reset with wake := true, currentHeight := 1000 }) fun _ => ()) = some ()) ∧
    ∃ t, [Event.tick, .agentStep .controlLoop, .rxError .desk, .agentStep .panelWriter].all bringsNothing = true ∧
      runEvents [.tick, .agentStep .controlLoop, .rxError .desk, .agentStep .panelWriter] State.reset = .next t :=
  ⟨⟨rfl, rfl, rfl, rfl, rfl, rfl⟩, by decide, _, rfl, rfl⟩

end Sys2Proof.Tests
end

section
/-! Proofs of the statements of 00_scope.md about the step and the turns: which event a step takes (R13), that listing events
as pending is running them in order, the host's table word, and when an agent's turn acts (R43). -/
namespace Sys2Proof.Machine

/-! ### Which event a step takes (R13) -/

theorem step_of_pending_cons {s : State} {e : Event} {rest : List Event} (h : s.env.pending = e :: rest) :
    step s = act e (s.withPending rest) := by
  simp only [step, State.nextEvent, State.eventTaken, h]
  rfl

theorem step_of_pending_nil {s : State} (h : s.env.pending = []) :
    step s = act (Config.environment s.env.drawn) { s with env := { s.env with drawn := s.env.drawn + 1 } } := by
  simp only [step, State.nextEvent, State.eventTaken, h]

/-- Settles O16, by the two shapes of the pending list. -/
theorem stepTakesTheNextEvent : Obligations.StepTakesTheNextEvent :=
  ⟨fun _ _ _ h => step_of_pending_cons h, fun _ h => step_of_pending_nil h⟩

/-! ### No rule reads or writes the pending list

Each operation does to a state with another pending list what it does to the state itself, and leaves that list alone. -/

/-- An outcome with `p` listed as the events to come in the state it answers, if it answers one. -/
def outcomeWithPending (p : List Event) : Host.Outcome State Fault Refusal → Host.Outcome State Fault Refusal
  | .next t => .next (t.withPending p)
  | .fault r => .fault r
  | .refused r => .refused r

@[simp] theorem outcomeWithPending_next (p : List Event) (t : State) :
    outcomeWithPending p (.next t) = .next (t.withPending p) := rfl

theorem setLink_withPending (L : Link) (l : LinkState) (p : List Event) (s : State) :
    (s.withPending p).setLink L l = (s.setLink L l).withPending p := by cases L <;> rfl

theorem pushD2P_withPending (m : D2P) (p : List Event) (s : State) :
    (s.withPending p).pushD2P m = (s.pushD2P m).withPending p := by
  rw [State.pushD2P, State.pushD2P, apply_ite (State.withPending p)]
  rfl

theorem pushP2D_withPending (m : P2D) (p : List Event) (s : State) :
    (s.withPending p).pushP2D m = (s.pushP2D m).withPending p := by
  rw [State.pushP2D, State.pushP2D, apply_ite (State.withPending p)]
  rfl

theorem relay_withPending (m : D2P) (p : List Event) (s : State) :
    (s.withPending p).relay m = (s.relay m).withPending p := by
  cases m with
  | height h => exact pushD2P_withPending _ p { s with currentHeight := h }
  | unknownD a b c d k => exact pushD2P_withPending _ p s

theorem receiveD2P_withPending (m : D2P) (p : List Event) (s : State) :
    receiveD2P m (s.withPending p) = outcomeWithPending p (receiveD2P m s) := by
  simp only [receiveD2P, isRunning_withPending, State.emitRx, withPending_link, setLink_withPending, relay_withPending]
  split <;> rfl

theorem receiveP2D_withPending (m : P2D) (p : List Event) (s : State) :
    receiveP2D m (s.withPending p) = outcomeWithPending p (receiveP2D m s) := by
  simp only [receiveP2D, isRunning_withPending, State.emitRx, withPending_link, setLink_withPending, pushP2D_withPending]
  split <;> rfl

theorem exec_withPending (i : Instr) (p : List Event) (s : State) :
    exec i (s.withPending p) = outcomeWithPending p (exec i s) := by
  cases i with
  | height h => exact receiveD2P_withPending (.height h) p s
  | unknownD a b c d k => exact receiveD2P_withPending (.unknownD a b c d k) p s
  | up => exact receiveP2D_withPending .up p s
  | down => exact receiveP2D_withPending .down p s
  | noKey => exact receiveP2D_withPending .noKey p s
  | presetOne h => exact receiveP2D_withPending (.presetOne h) p s
  | presetTwo h => exact receiveP2D_withPending (.presetTwo h) p s
  | presetThree h => exact receiveP2D_withPending (.presetThree h) p s
  | unknownP a b c d k => exact receiveP2D_withPending (.unknownP a b c d k) p s

theorem rxByte_withPending (L : Link) (b : Byte) (p : List Event) (s : State) :
    rxByte L b (s.withPending p) = outcomeWithPending p (rxByte L b s) := by
  simp only [rxByte, isRunning_withPending, withPending_link, setLink_withPending, exec_withPending]
  repeat' split
  all_goals rfl

theorem rxTimeout_withPending (L : Link) (p : List Event) (s : State) :
    rxTimeout L (s.withPending p) = (rxTimeout L s).withPending p := by
  simp only [rxTimeout, isRunning_withPending, withPending_link, setLink_withPending]
  split <;> rfl

theorem rxError_withPending (L : Link) (p : List Event) (s : State) :
    rxError L (s.withPending p) = (rxError L s).withPending p := by
  rw [rxError, rxError, apply_ite (State.withPending p)]
  rfl

theorem txDue_withPending (L : Link) (p : List Event) (s : State) : (s.withPending p).txDue L = s.txDue L := by
  cases L <;> rfl

theorem txError_withPending (L : Link) (p : List Event) (s : State) :
    txError L (s.withPending p) = (txError L s).withPending p := by
  simp only [txError, txDue_withPending]
  split <;> rfl

theorem moveToHeight_withPending (h : Nat) (p : List Event) (s : State) :
    moveToHeight h (s.withPending p) = (moveToHeight h s).withPending p := by
  unfold moveToHeight
  split <;> rfl

theorem readFound_withPending (L : Link) (p : List Event) (s : State) :
    readFound L (s.withPending p) = (readFound L s).withPending p := by cases L <;> rfl

theorem readDropped_withPending (L : Link) (p : List Event) (s : State) :
    readDropped L (s.withPending p) = (readDropped L s).withPending p := by
  cases L with
  | desk =>
    simp only [readDropped, withPending_env]
    split <;> rfl
  | panel =>
    simp only [readDropped, withPending_env]
    split <;> rfl

theorem readerStep_withPending (L : Link) (p : List Event) (s : State) :
    readerStep L (s.withPending p) = (readerStep L s).withPending p := by
  rw [readerStep, readerStep, apply_ite (State.withPending p)]
  rfl

theorem panelStart_withPending (m : D2P) (rest : List D2P) (p : List Event) (s : State) :
    panelStart m rest (s.withPending p) = outcomeWithPending p (panelStart m rest s) := by
  unfold panelStart
  split <;> rfl

theorem panelWriterStep_withPending (p : List Event) (s : State) :
    panelWriterStep (s.withPending p) = outcomeWithPending p (panelWriterStep s) := by
  unfold panelWriterStep
  cases hw : s.pwState with
  | writing =>
    simp only [withPending_pwState, hw, apply_ite (outcomeWithPending p)]
    rfl
  | idle =>
    cases hq : s.d2pQ with
    | nil =>
      simp only [withPending_pwState, withPending_d2pQ, hw, hq, apply_ite (outcomeWithPending p)]
      rfl
    | cons m rest =>
      simp only [withPending_pwState, withPending_d2pQ, hw, hq, apply_ite (outcomeWithPending p),
        panelStart_withPending]
      rfl

theorem debouncerStep_withPending (p : List Event) (s : State) :
    debouncerStep (s.withPending p) = (debouncerStep s).withPending p := by
  unfold debouncerStep
  cases hq : s.panelQ with
  | nil =>
    simp only [withPending_panelQ, hq, apply_ite (State.withPending p)]
    rfl
  | cons m rest =>
    simp only [withPending_panelQ, hq, apply_ite (State.withPending p)]
    rfl

theorem evaluate_withPending (p : List Event) (s : State) :
    evaluate (s.withPending p) = outcomeWithPending p (evaluate s) := by
  simp only [evaluate, withPending_currentPanelKey, withPending_targetHeight, withPending_currentHeight]
  repeat' split
  all_goals rfl

theorem controlLoopStep_withPending (p : List Event) (s : State) :
    controlLoopStep (s.withPending p) = outcomeWithPending p (controlLoopStep s) := by
  unfold controlLoopStep
  cases hc : s.clState with
  | waiting =>
    simp only [withPending_clState, hc, apply_ite (outcomeWithPending p), ← evaluate_withPending]
    rfl
  | writing =>
    simp only [withPending_clState, hc, apply_ite (outcomeWithPending p)]
    rfl

theorem agentStep_withPending (A : Agent) (p : List Event) (s : State) :
    agentStep A (s.withPending p) = outcomeWithPending p (agentStep A s) := by
  cases A with
  | deskReader => exact congrArg _ (readerStep_withPending .desk p s)
  | panelWriter => exact panelWriterStep_withPending p s
  | panelReader => exact congrArg _ (readerStep_withPending .panel p s)
  | debouncer => exact congrArg _ (debouncerStep_withPending p s)
  | controlLoop => exact controlLoopStep_withPending p s

/-- What an event does depends on the registers alone, not on the events listed after it, and it lists none. -/
theorem act_withPending (e : Event) (p : List Event) (s : State) :
    act e (s.withPending p) = outcomeWithPending p (act e s) := by
  cases e with
  | rxByte L b => exact rxByte_withPending L b p s
  | rxTimeout L => exact congrArg _ (rxTimeout_withPending L p s)
  | rxError L => exact congrArg _ (rxError_withPending L p s)
  | txError L => exact congrArg _ (txError_withPending L p s)
  | moveToHeight h => exact congrArg _ (moveToHeight_withPending h p s)
  | readFound L => exact congrArg _ (readFound_withPending L p s)
  | readDropped L => exact congrArg _ (readDropped_withPending L p s)
  | agentStep A => exact agentStep_withPending A p s
  | reset | tick | shutdown | readCurrentHeight | readCurrentPanelKey => rfl

/-- With `e` first in the list, a step is `e`, the rest of the list still to come. -/
theorem step_withPending_cons (e : Event) (rest : List Event) (s : State) :
    step (s.withPending (e :: rest)) = outcomeWithPending rest (act e s) := by
  rw [step_of_pending_cons (rest := rest) rfl, ← act_withPending]
  rfl

theorem run_core_succ (k : Nat) {s t : State} (h : step s = .next t) :
    Host.Core.run core (k + 1) s = Host.Core.run core k t := by
  simp only [Host.Core.run, show core.step s = .next t from h]

/-- Everything a run of events that answers can have done: nothing to run, or the first event and then the rest. -/
theorem runEvents_cons_next {e : Event} {rest : List Event} {s t : State} (h : runEvents (e :: rest) s = .next t) :
    ∃ u, act e s = .next u ∧ runEvents rest u = .next t := by
  unfold runEvents at h
  split at h
  · next u hu => exact ⟨u, hu, h⟩
  · cases h
  · cases h

/-- Settles O19, by induction on the list of events. -/
theorem pendingEventsRunInOrder : Obligations.PendingEventsRunInOrder := by
  intro events
  induction events with
  | nil =>
    rintro s t ⟨⟩
    rfl
  | cons e rest ih =>
    intro s t h
    obtain ⟨u, hu, ht⟩ := runEvents_cons_next h
    have hstep : step (s.withPending (e :: rest)) = .next (u.withPending rest) := by
      rw [step_withPending_cons, hu, outcomeWithPending_next]
    rw [List.length_cons, run_core_succ _ hstep]
    exact ih u t ht

/-! ### The host's table word (notes/assumptions/3.md) -/

theorem instrOfFrame_link (L : Link) (f : Frame) : (instrOfFrame L f).link = L := by
  cases L with
  | desk =>
    rw [instrOfFrame_desk]
    cases decD2P f <;> rfl
  | panel =>
    rw [instrOfFrame_panel]
    cases decP2D f <;> rfl

theorem decodeTableWord_some {w : Nat} {i : Instr} (h : decodeTableWord 56 w = some i) :
    decodeFrame (tableLink (tableFrame (w % 2 ^ 56))) (tableFrame (w % 2 ^ 56)) = .ok i := by
  unfold decodeTableWord at h
  dsimp only at h
  split at h
  · next j hj => exact hj.trans (congrArg _ (Option.some.inj h))
  · cases h

/-- The 7th byte of a candidate the link decodes runs the decoded instruction (R174, R179, R180). -/
theorem rxByte_seventh {L : Link} {b : Byte} {i : Instr} {s : State} (hr : s.run.get (readerOf L) = .running)
    (hp : (s.link L).pos = 6) (hd : decodeFrame L (candidate (s.link L) b) = .ok i) : rxByte L b s = exec i s := by
  simp [rxByte, (isRunning_iff _ _).2 hr, hp, hd]

/-- The state in which the hook's instruction runs: the link's Running reader holds the first six bytes of `f`. -/
def withSixBytes (L : Link) (f : Frame) (s : State) : State :=
  { s.setLink L { s.link L with buf := { f with b6 := (s.link L).buf.b6 }, pos := 6 } with
    run := s.run.set (readerOf L) .running
    cause := s.cause.set (readerOf L) .noFault }

theorem withSixBytes_link (L : Link) (f : Frame) (s : State) :
    (withSixBytes L f s).link L = { s.link L with buf := { f with b6 := (s.link L).buf.b6 }, pos := 6 } := by
  cases L <;> rfl

theorem withSixBytes_run (L : Link) (f : Frame) (s : State) :
    (withSixBytes L f s).run.get (readerOf L) = .running := PerAgent.get_set_same _ _ _

/-- The step after `withFetchWord` is the arrival of the word's 7th byte. -/
theorem step_withFetchWord (s : State) (w : Nat) :
    step (s.withFetchWord 56 w) =
      let f := tableFrame (w % 2 ^ 56)
      rxByte (tableLink f) f.b6 (withSixBytes (tableLink f) f s) := by
  rw [step_of_pending_cons (rest := s.env.pending) rfl]
  dsimp only [act, State.withFetchWord, withSixBytes, State.withPending]
  rw [setLink_env]

theorem rxByte_withSixBytes {L : Link} {f : Frame} {i : Instr} (s : State) (h : decodeFrame L f = .ok i) :
    rxByte L f.b6 (withSixBytes L f s) = exec i (withSixBytes L f s) := by
  refine rxByte_seventh (withSixBytes_run L f s) ?_ ?_
  · rw [withSixBytes_link]
  · rw [withSixBytes_link]
    exact h

/-- Settles O18: the step is the arrival of the word's 7th byte, which completes the frame the hook decoded. -/
theorem tableWordRunsNext : Obligations.TableWordRunsNext := by
  intro s w i h
  have hd := decodeTableWord_some h
  have hL : i.link = tableLink (tableFrame (w % 2 ^ 56)) := by
    rw [← ((decodeFrame_ok_iff _ _ _).1 hd).2, instrOfFrame_link]
  refine ⟨withSixBytes i.link (tableFrame (w % 2 ^ 56)) s, tableFrame (w % 2 ^ 56), ?_, by rw [hL]; exact hd, rfl⟩
  rw [step_withFetchWord, hL]
  exact rxByte_withSixBytes s hd

/-! ### Every rule of an agent changes the state -/

theorem halt_ne {A : Agent} {s : State} (hr : s.isRunning A = true) : s.halt A ≠ s := fun h => by
  have hrun : (s.halt A).run.get A = .running := by rw [h]; exact (isRunning_iff A s).1 hr
  simp at hrun

theorem raise_ne {A : Agent} {s : State} (c : Cause) (hr : s.isRunning A = true) : s.raise A c ≠ s := fun h => by
  have hrun : (s.raise A c).run.get A = .running := by rw [h]; exact (isRunning_iff A s).1 hr
  simp at hrun

theorem panelTransmit_ne (s : State) : panelTransmit s ≠ s := fun h => by
  simpa using congrArg (·.env.outputs) h

theorem deskTransmit_ne (s : State) : deskTransmit s ≠ s := fun h => by
  simpa using congrArg (·.env.outputs) h

theorem panelComplete_ne {s : State} (hw : s.pwState = .writing) : panelComplete s ≠ s := fun h => by
  simpa [hw] using congrArg State.pwState h

theorem writeComplete_ne {s : State} (hw : s.clState = .writing) : writeComplete s ≠ s := fun h => by
  simpa [hw] using congrArg State.clState h

theorem panelStart_ne {m : D2P} {rest : List D2P} {s : State} (hi : s.pwState = .idle) :
    panelStart m rest s ≠ .next s := fun h => by
  unfold panelStart at h
  split at h
  · injection h with h
    simpa [hi] using congrArg State.pwState h
  · cases h

theorem debounceTake_ne {m : P2D} {rest : List P2D} {s : State} (hq : s.panelQ = m :: rest) :
    debounceTake m rest s ≠ s := fun h => by
  simpa [hq] using congrArg State.panelQ h

theorem debounceExpire_ne {s : State} (he : s.debounceExpired = true) : debounceExpire s ≠ s := fun h => by
  have h0 : s.debTimer = 0 := by rw [← h]; rfl
  simp [h0] at he

/-- An evaluation leaves the idle timer at 0 and does not touch the notification (R233, R234). -/
theorem evaluate_idleTimer_wake {s t : State} (h : evaluate s = .next t) : t.idleTimer = 0 ∧ t.wake = s.wake := by
  rcases evaluate_cases h with ⟨_, rfl⟩ | ⟨c, f, _, _, rfl⟩
  · exact ⟨rfl, rfl⟩
  · exact ⟨rfl, rfl⟩

theorem evaluate_woken_ne {s u : State} (hs : s.wake = true) (hu : u.wake = false) : evaluate u ≠ .next s := fun h => by
  have hwake := (evaluate_idleTimer_wake h).2
  rw [hs, hu] at hwake
  cases hwake

theorem evaluate_idle_ne {s : State} (hi : s.idleExpired = true) : evaluate s ≠ .next s := fun h => by
  simp [(evaluate_idleTimer_wake h).1] at hi

/-! ### A turn acts exactly when its agent is enabled (R13, R43) -/

theorem enabled_of_stopped {A : Agent} {s : State} (hr : s.isRunning A = false) : s.enabled A = false := by
  simp [State.enabled, hr]

theorem enabled_of_shutdown {A : Agent} {s : State} (hr : s.isRunning A = true) (hs : s.shutdown = true) :
    s.enabled A = true := by simp [State.enabled, hr, hs]

theorem enabled_of_running {A : Agent} {s : State} (hr : s.isRunning A = true) (hs : s.shutdown = false) :
    s.enabled A = s.workGuard A := by simp [State.enabled, hr, hs]

/-- The shape every turn shares: a stopped agent stays, a shut down one halts, and the rest, `work`, has to act exactly when
one of the agent's step rules has its guard. -/
theorem turn_eq_self_iff {A : Agent} {s : State} {work : Host.Outcome State Fault Refusal}
    (h : s.isRunning A = true → s.shutdown = false → (work = .next s ↔ s.workGuard A = false)) :
    (if !s.isRunning A then .next s else if s.shutdown then .next (s.halt A) else work) = .next s ↔
      s.enabled A = false := by
  cases hr : s.isRunning A with
  | false => exact iff_of_true rfl (enabled_of_stopped hr)
  | true =>
    cases hs : s.shutdown with
    | true =>
      refine iff_of_false (fun he => halt_ne hr ?_) (by simp [enabled_of_shutdown hr hs])
      simpa using he
    | false =>
      rw [enabled_of_running hr hs]
      exact h hr hs

theorem readerStep_eq_self_iff (L : Link) (s : State) :
    (.next (readerStep L s) : Host.Outcome State Fault Refusal) = .next s ↔ s.enabled (readerOf L) = false := by
  have hwork : s.workGuard (readerOf L) = false := by cases L <;> rfl
  have hshape : (.next (readerStep L s) : Host.Outcome State Fault Refusal) =
      if !s.isRunning (readerOf L) then .next s
      else if s.shutdown then .next (s.halt (readerOf L)) else .next s := by
    unfold readerStep
    cases s.isRunning (readerOf L) <;> cases s.shutdown <;> rfl
  rw [hshape]
  exact turn_eq_self_iff fun _ _ => iff_of_true rfl hwork

theorem panelWriterStep_eq_self_iff (s : State) :
    panelWriterStep s = .next s ↔ s.enabled .panelWriter = false := by
  refine turn_eq_self_iff fun hr _ => ?_
  simp only [State.workGuard, State.panelStartGuard, State.panelTransmitGuard, State.panelCompleteGuard,
    State.panelReceiveFaultGuard, emptyQ]
  cases hw : s.pwState with
  | writing =>
    by_cases hg : s.pwGap = 0
    · by_cases hm : s.pwRemaining = 0#8
      · simp [hg, hm, panelComplete_ne hw]
      · simp [hg, hm, panelTransmit_ne]
    · simp [hg]
  | idle =>
    cases hq : s.d2pQ with
    | cons m rest => simp [panelStart_ne hw]
    | nil =>
      cases hd : s.isRunning .deskReader with
      | true => simp
      | false => simp [raise_ne .channelReceive hr]

theorem debouncerStep_eq_self_iff (s : State) :
    (.next (debouncerStep s) : Host.Outcome State Fault Refusal) = .next s ↔ s.enabled .debouncer = false := by
  rw [debouncerStep, apply_ite Host.Outcome.next, apply_ite Host.Outcome.next]
  refine turn_eq_self_iff fun hr _ => ?_
  simp only [State.workGuard, State.takeGuard, State.expireGuard, State.debounceReceiveFaultGuard, emptyQ,
    Host.Outcome.next.injEq]
  cases hq : s.panelQ with
  | cons m rest => simp [debounceTake_ne hq]
  | nil =>
    cases hp : s.isRunning .panelReader with
    | false => simp [raise_ne .channelReceive hr]
    | true =>
      cases he : s.debounceExpired with
      | true => simp [debounceExpire_ne he]
      | false => simp

theorem controlLoopStep_eq_self_iff (s : State) :
    controlLoopStep s = .next s ↔ s.enabled .controlLoop = false := by
  refine turn_eq_self_iff fun _ _ => ?_
  simp only [State.workGuard, State.wakeGuard, State.deskTransmitGuard, State.writeCompleteGuard]
  cases hc : s.clState with
  | waiting =>
    dsimp only
    split
    · next hk => exact iff_of_false (evaluate_woken_ne hk rfl) (by simp [hk])
    next hk =>
    split
    · next hi => exact iff_of_false (evaluate_idle_ne hi) (by rw [hi]; simp)
    · next hi => exact iff_of_true rfl (by rw [Bool.eq_false_iff.2 hk, Bool.eq_false_iff.2 hi]; rfl)
  | writing =>
    by_cases hg : s.txGap = 0
    · by_cases hm : s.txRemaining = 0#8
      · simp [hg, hm, writeComplete_ne hc]
      · simp [hg, hm, deskTransmit_ne]
    · simp [hg]

theorem agentStep_eq_self_iff (A : Agent) (s : State) : agentStep A s = .next s ↔ s.enabled A = false := by
  cases A with
  | deskReader => exact readerStep_eq_self_iff .desk s
  | panelWriter => exact panelWriterStep_eq_self_iff s
  | panelReader => exact readerStep_eq_self_iff .panel s
  | debouncer => exact debouncerStep_eq_self_iff s
  | controlLoop => exact controlLoopStep_eq_self_iff s

/-- Without `shutdown` an agent none of whose step rules applies has no enabled step. -/
theorem enabled_eq_false_of_workGuard {A : Agent} {s : State} (hs : s.shutdown = false) (hw : s.workGuard A = false) :
    s.enabled A = false := by
  simp [State.enabled, hs, hw]

/-- Settles O53: a turn acts exactly when its agent is enabled, and each of the four waits is a state in which no guard of
the agent holds. -/
theorem turnsActExactlyWhenEnabled : Obligations.TurnsActExactlyWhenEnabled := by
  have waits : ∀ {A : Agent} {s : State}, s.shutdown = false → s.workGuard A = false →
      act (.agentStep A) s = .next s := fun hs hw =>
    (agentStep_eq_self_iff _ _).2 (enabled_eq_false_of_workGuard hs hw)
  refine ⟨agentStep_eq_self_iff, fun s hs => ⟨fun hp hg => waits hs ?_, fun hq hr ht => waits hs ?_,
    fun hc hk hi => waits hs ?_, fun hc hg => waits hs ?_⟩⟩
  · simp [State.workGuard, State.panelStartGuard, State.panelTransmitGuard, State.panelCompleteGuard,
      State.panelReceiveFaultGuard, hp, hg]
  · have he : s.debounceExpired = false := by
      rw [Bool.eq_false_iff, Ne, debounceExpired_iff]
      omega
    have hr : s.isRunning .panelReader = true := (isRunning_iff _ _).2 hr
    simp [State.workGuard, State.takeGuard, State.expireGuard, State.debounceReceiveFaultGuard, emptyQ, hq, he, hr]
  · have he : s.idleExpired = false := by
      rw [Bool.eq_false_iff, Ne, idleExpired_iff]
      omega
    simp [State.workGuard, State.wakeGuard, State.deskTransmitGuard, State.writeCompleteGuard, hc, hk, he]
  · simp [State.workGuard, State.wakeGuard, State.deskTransmitGuard, State.writeCompleteGuard, hc, hg]

end Sys2Proof.Machine
end

section
/-! Proofs of the statements of 10_state.md: the invariants of R48 along every step, what each event can write (R20, R21, R45,
R75), the write of the control loop (R37, R41), the stops that last (R32, R43) and the reset values (R47). -/
namespace Sys2Proof

/-! ### Messages decoded inside the block are well formed, and so are the frames made of them (R140, R147) -/

theorem heightInRange_heightOfField (msb lsb : Byte) :
    heightInRange (heightOfField Config.offsetDesk msb lsb) = true := by
  have hm := msb.isLt
  have hl := lsb.isLt
  rw [heightInRange_iff, heightOfField_toNat _ _ _ (by decide), Config.offsetDesk]
  omega

theorem presetInRange_heightOfField (msb lsb : Byte) :
    presetInRange (heightOfField Config.offsetPreset msb lsb) = true := by
  have hm := msb.isLt
  have hl := lsb.isLt
  rw [presetInRange_iff, heightOfField_toNat _ _ _ (by decide), Config.offsetPreset]
  omega

theorem unknownSumOk_of_valid {f : Frame} (hv : frameValid f = true) : unknownSumOk f.b1 f.b2 f.b3 f.b4 f.b5 = true := by
  obtain ⟨-, -, hsum⟩ := (frameValid_iff f).1 hv
  simp [unknownSumOk, hsum, checksum]

theorem decD2P_wellFormed {f : Frame} (hv : frameValid f = true) : (decD2P f).instr.wellFormed = true := by
  unfold decD2P
  split
  · exact heightInRange_heightOfField _ _
  · next hkey =>
    have hkey : deskKeyKnown f.b2 = false := beq_eq_false_iff_ne.2 hkey
    simp [D2P.instr, Instr.wellFormed, hkey, unknownSumOk_of_valid hv]

theorem decP2D_wellFormed {f : Frame} (hv : frameValid f = true) : (decP2D f).instr.wellFormed = true := by
  unfold decP2D
  split; · rfl
  split; · rfl
  split; · rfl
  split; · exact presetInRange_heightOfField _ _
  split; · exact presetInRange_heightOfField _ _
  split; · exact presetInRange_heightOfField _ _
  have hkey : panelKeyKnown f.b2 = false := by simp_all [panelKeyKnown]
  simp [P2D.instr, Instr.wellFormed, hkey, unknownSumOk_of_valid hv]

theorem frameValid_verbatimFrame (a b c d k : Byte) :
    frameValid (verbatimFrame a b c d k) = unknownSumOk a b c d k := by
  simp [frameValid, verbatimFrame, unknownSumOk, checksum]

theorem encPreset_valid {key : Byte} {h : Mm} {f : Frame} (he : encPreset key h = some f) : frameValid f = true := by
  obtain ⟨-, rfl⟩ := (encPreset_some_iff key h f).1 he
  exact frameValid_knownFrame _ _ _

theorem encP2D_valid {m : P2D} {f : Frame} (hw : m.instr.wellFormed = true) (he : encP2D m = some f) :
    frameValid f = true := by
  cases m with
  | up | down | noKey => cases he; exact frameValid_knownFrame _ _ _
  | presetOne h | presetTwo h | presetThree h => exact encPreset_valid he
  | unknownP a b c d k =>
    cases he
    simp only [P2D.instr, Instr.wellFormed, Bool.and_eq_true] at hw
    rw [frameValid_verbatimFrame, hw.2]

theorem encD2P_valid {m : D2P} {f : Frame} (hw : m.instr.wellFormed = true) (he : encD2P m = some f) :
    frameValid f = true := by
  cases m with
  | height h =>
    obtain ⟨-, -, rfl⟩ := (encHeight_some_iff h f).1 he
    exact frameValid_knownFrame _ _ _
  | unknownD a b c d k =>
    cases he
    simp only [D2P.instr, Instr.wellFormed, Bool.and_eq_true] at hw
    rw [frameValid_verbatimFrame, hw.2]

end Sys2Proof

namespace Sys2Proof.Machine

/-- A repeat count that is not used up counts down by one. -/
theorem toNat_pred_add_one {n : Repeats} (h : n ≠ 0) : (n - 1).toNat + 1 = n.toNat := by
  bv_omega

/-! ### R48 (2) along the synchronizer's rules -/

theorem bufWrite_b0 {i : Fin 7} (hi : i ≠ 0) (f : Frame) (b : Byte) : (bufWrite f i b).b0 = f.b0 :=
  (bufRead_bufWrite f i 0 b).trans (if_neg hi.symm)

theorem LinkState.acceptStart_inv (l : LinkState) : l.acceptStart.Inv := fun _ => rfl

theorem LinkState.Inv.discardOne {l : LinkState} (h : l.Inv) : l.discardOne.Inv := h

theorem LinkState.Inv.fill {l : LinkState} (h : l.Inv) (hp : l.pos ≠ 0) (b : Byte) : (l.fill b).Inv :=
  fun _ => (bufWrite_b0 hp _ _).trans (h hp)

theorem LinkState.discardSeven_inv (l : LinkState) : l.discardSeven.Inv := fun hp => absurd rfl hp

theorem LinkState.emitted_inv (l : LinkState) : l.emitted.Inv := fun hp => absurd rfl hp

theorem LinkState.Inv.report {l : LinkState} (h : l.Inv) : l.report.Inv := h

theorem State.Inv.link {s : State} (h : s.Inv) (L : Link) : (s.link L).Inv := by
  cases L with
  | desk => exact h.deskFilling
  | panel => exact h.panelFilling

/-! ### The invariant along each update of the state

Each lemma names the fields an update touches; the others are kept as they stand. -/

theorem State.Inv.withEnv {s : State} (h : s.Inv) (env : Environment) : ({ s with env := env } : State).Inv := { h with }

theorem State.Inv.setLink {s : State} (h : s.Inv) (L : Link) {l : LinkState} (hl : l.Inv) : (s.setLink L l).Inv := by
  cases L with
  | desk => exact { h with deskFilling := hl }
  | panel => exact { h with panelFilling := hl }

theorem State.Inv.halt {s : State} (h : s.Inv) {A : Agent} (hr : s.run.get A = .running) : (s.halt A).Inv :=
  { h with
    causeOfFault := fun B => by
      rw [halt_run, halt_cause, PerAgent.get_set, ← h.causeOfFault B]
      split
      · next hB => simp [hB, hr]
      · rfl }

theorem State.Inv.raise {s : State} (h : s.Inv) (A : Agent) {c : Cause} (hc : c ≠ .noFault) : (s.raise A c).Inv :=
  { h with
    causeOfFault := fun B => by
      rw [raise_run, raise_cause, PerAgent.get_set, PerAgent.get_set]
      split
      · exact iff_of_true rfl hc
      · exact h.causeOfFault B }

/-- R47 meets R48: everything waits, nothing is queued, no agent is stopped. -/
theorem State.reset_inv : State.reset.Inv where
  deskFilling := fun hp => absurd rfl hp
  panelFilling := fun hp => absurd rfl hp
  waitingNothingLeft := fun _ => ⟨rfl, rfl⟩
  idleNothingLeft := fun _ => ⟨rfl, rfl⟩
  legalTarget := nofun
  legalHeight := .inl rfl
  debRange := Nat.zero_le _
  idleRange := Nat.zero_le _
  txRemainingRange := Nat.zero_le _
  pwRemainingRange := Nat.zero_le _
  txGapRange := Nat.zero_le _
  pwGapRange := Nat.zero_le _
  keyDecoded := nofun
  panelQDecoded := nofun
  d2pQDecoded := nofun
  txFrameValid := nofun
  pwFrameValid := nofun
  causeOfFault := fun A => by simp [State.reset]

/-- A well-formed desk message leaves a legal height (R28, R200). -/
theorem heightAfter_legal {m : D2P} {cur : Mm} (hw : m.instr.wellFormed = true)
    (hcur : cur = Config.hReset ∨ heightInRange cur = true) :
    heightAfter m cur = Config.hReset ∨ heightInRange (heightAfter m cur) = true := by
  cases m with
  | height h => exact .inr hw
  | unknownD a b c d k => exact hcur

/-- What the relay of a desk message does before its push (R180, R200). -/
theorem State.Inv.heard {s : State} (h : s.Inv) {m : D2P} (hw : m.instr.wellFormed = true) :
    ({ s with desk := s.desk.emitted, currentHeight := heightAfter m s.currentHeight } : State).Inv :=
  { h with
    deskFilling := s.desk.emitted_inv
    legalHeight := heightAfter_legal hw h.legalHeight }

theorem State.Inv.pushD2P {s : State} (h : s.Inv) {m : D2P} (hw : m.instr.wellFormed = true) :
    ({ s with d2pQ := s.d2pQ ++ [m] } : State).Inv :=
  { h with d2pQDecoded := List.forall_mem_append.2 ⟨h.d2pQDecoded, List.forall_mem_singleton.2 hw⟩ }

theorem State.Inv.pushP2D {s : State} (h : s.Inv) {m : P2D} (hw : m.instr.wellFormed = true) :
    ({ s with panelQ := s.panelQ ++ [m] } : State).Inv :=
  { h with panelQDecoded := List.forall_mem_append.2 ⟨h.panelQDecoded, List.forall_mem_singleton.2 hw⟩ }

theorem State.Inv.tick {s : State} (h : s.Inv) : (tick s).Inv :=
  { h with
    waitingNothingLeft := fun hc => by simp [h.waitingNothingLeft hc]
    idleNothingLeft := fun hc => by simp [h.idleNothingLeft hc]
    debRange := by
      rw [tick_debTimer]
      have hd := h.debRange
      split <;> omega
    idleRange := by
      rw [tick_idleTimer]
      have hi := h.idleRange
      split <;> omega
    txGapRange := (Nat.sub_le _ _).trans h.txGapRange
    pwGapRange := (Nat.sub_le _ _).trans h.pwGapRange }

/-- An accepted height is a legal target (R29, R250). -/
theorem State.Inv.moveAccepted {s : State} (h : s.Inv) {v : Nat} (hlo : 650 ≤ v) (hhi : v ≤ 1295) (h5 : v % 5 = 0) :
    ({ s with targetHeight := some (BitVec.ofNat 17 v), wake := true } : State).Inv :=
  { h with
    legalTarget := fun t ht => by
      have htoNat : t.toNat = v := by
        rw [← Option.some.inj ht, BitVec.toNat_ofNat]
        omega
      omega }

theorem State.Inv.panelStarted {s : State} (h : s.Inv) {m : D2P} {rest : List D2P} {f : Frame}
    (hq : s.d2pQ = m :: rest) (hf : encD2P m = some f) :
    ({ s with d2pQ := rest, pwFrame := f, pwRemaining := Config.relayTimes, pwState := .writing } : State).Inv := by
  obtain ⟨hm, hrest⟩ := List.forall_mem_cons.1 (hq ▸ h.d2pQDecoded)
  exact { h with
    idleNothingLeft := nofun
    pwRemainingRange := le_rfl
    d2pQDecoded := hrest
    pwFrameValid := fun _ => encD2P_valid hm hf }

theorem State.Inv.panelTransmit {s : State} (h : s.Inv) (hw : s.pwState = .writing) (hn : s.pwRemaining ≠ 0) :
    (panelTransmit s).Inv :=
  { h with
    idleNothingLeft := fun hi => by simp [hw] at hi
    pwRemainingRange := (Nat.le.intro (toNat_pred_add_one hn)).trans h.pwRemainingRange
    pwGapRange := le_rfl }

theorem State.Inv.panelComplete {s : State} (h : s.Inv) (hg : s.pwGap = 0) (hn : s.pwRemaining = 0) :
    (panelComplete s).Inv :=
  { h with
    idleNothingLeft := fun _ => ⟨hn, hg⟩
    pwFrameValid := nofun }

theorem State.Inv.debounceTake {s : State} (h : s.Inv) {m : P2D} {rest : List P2D} (hq : s.panelQ = m :: rest) :
    (debounceTake m rest s).Inv := by
  obtain ⟨hm, hrest⟩ := List.forall_mem_cons.1 (hq ▸ h.panelQDecoded)
  exact { h with
    debRange := Nat.zero_le _
    keyDecoded := fun k hk => Option.some.inj hk ▸ hm
    panelQDecoded := hrest }

theorem State.Inv.debounceExpire {s : State} (h : s.Inv) : (debounceExpire s).Inv :=
  { h with
    debRange := Nat.zero_le _
    keyDecoded := nofun }

theorem State.Inv.evaluatedNone {s : State} (h : s.Inv) : ({ s with wake := false, idleTimer := 0 } : State).Inv :=
  { h with idleRange := Nat.zero_le _ }

theorem pursue_wellFormed (t cur : Mm) : (pursue t cur).message.instr.wellFormed = true := by
  rcases pursue_cases t cur with ⟨-, hc⟩ | ⟨-, hc⟩ | ⟨-, hc⟩ <;> rw [hc] <;> rfl

theorem pursue_repeatCount_le (t cur : Mm) : (pursue t cur).repeatCount.toNat ≤ 200 := by
  rcases pursue_cases t cur with ⟨-, hc⟩ | ⟨-, hc⟩ | ⟨-, hc⟩ <;> rw [hc] <;> decide

/-- A command is the key held, or a step of the block's own; its repeat count is 1 or the burst (R38, R221 to R226). -/
theorem nextCommand_legal {key : Option P2D} {target : Option Mm} {cur : Mm} {c : Command}
    (hkey : ∀ m, key = some m → m.instr.wellFormed = true) (hc : nextCommand key target cur = some c) :
    c.message.instr.wellFormed = true ∧ c.repeatCount.toNat ≤ 200 := by
  rcases nextCommand_cases key target cur with ⟨-, -, hn⟩ | ⟨k, hk, -, hn⟩ | ⟨-, -, hn⟩ | ⟨t, -, -, hn⟩ <;>
    rw [hn] at hc
  · cases hc
  · cases hc
    exact ⟨hkey k hk, (by decide : (1 : Repeats).toNat ≤ 200)⟩
  · cases hc
    exact ⟨rfl, by decide⟩
  · cases hc
    exact ⟨pursue_wellFormed t cur, pursue_repeatCount_le t cur⟩

theorem State.Inv.evaluatedSome {s : State} (h : s.Inv) {c : Command} {f : Frame}
    (hc : nextCommand s.currentPanelKey s.targetHeight s.currentHeight = some c) (hf : encP2D c.message = some f) :
    (evaluated c f { s with wake := false }).Inv := by
  obtain ⟨hm, hn⟩ := nextCommand_legal h.keyDecoded hc
  exact { h with
    waitingNothingLeft := nofun
    idleRange := Nat.zero_le _
    txRemainingRange := hn
    txGapRange := Nat.zero_le _
    txFrameValid := fun _ => encP2D_valid hm hf }

theorem State.Inv.deskTransmit {s : State} (h : s.Inv) (hw : s.clState = .writing) (hn : s.txRemaining ≠ 0) :
    (deskTransmit s).Inv :=
  { h with
    waitingNothingLeft := fun hi => by simp [hw] at hi
    txRemainingRange := (Nat.le.intro (toNat_pred_add_one hn)).trans h.txRemainingRange
    txGapRange := le_rfl }

theorem State.Inv.writeComplete {s : State} (h : s.Inv) (hg : s.txGap = 0) (hn : s.txRemaining = 0) :
    (writeComplete s).Inv :=
  { h with
    waitingNothingLeft := fun _ => ⟨hn, hg⟩
    legalTarget := fun t ht => by
      rw [writeComplete_targetHeight] at ht
      split at ht
      · cases ht
      · exact h.legalTarget t ht
    idleRange := Nat.zero_le _
    txFrameValid := nofun }

/-- Every rule of the block keeps the invariant, `RESET` among them. -/
theorem Did.inv {e : Event} {s t : State} (hd : Did e s t) (h : s.Inv) : t.Inv := by
  cases hd with
  | nothing => exact h
  | reset => exact State.reset_inv.withEnv s.env
  | acceptStart L => exact h.setLink L (s.link L).acceptStart_inv
  | discardOne L => exact h.setLink L (h.link L).discardOne
  | fill L b _ _ hp => exact h.setLink L ((h.link L).fill hp b)
  | discardSeven L => exact h.setLink L (s.link L).discardSeven_inv
  | relayed b _ _ _ _ hv => exact (h.heard (decD2P_wellFormed hv)).pushD2P (decD2P_wellFormed hv)
  | relayFault b _ _ _ _ hv => exact (h.heard (decD2P_wellFormed hv)).raise .deskReader (c := .channelSend) nofun
  | queued b _ _ _ _ hv => exact (h.setLink .panel s.panel.emitted_inv).pushP2D (decP2D_wellFormed hv)
  | queueFault =>
    exact (h.setLink .panel s.panel.emitted_inv).raise .panelReader (c := .channelSend) nofun
  | reported L => exact h.setLink L (h.link L).report
  | readError L => exact h.raise _ nofun
  | writeError L => exact h.raise _ nofun
  | ticked => exact h.tick
  | moveAccepted v _ hlo hhi h5 => exact (h.moveAccepted hlo hhi h5).withEnv _
  | moveRejected => exact h.withEnv _
  | shutdownSet => exact { h with }
  | hostRead _ _ env => exact h.withEnv env
  | halted A _ hr => exact h.halt hr
  | panelStarted m rest f _ _ _ _ hq hf => exact h.panelStarted hq hf
  | panelTransmitted _ _ _ hw _ hn => exact h.panelTransmit hw hn
  | panelCompleted _ _ _ _ hg hn => exact h.panelComplete hg hn
  | panelProducerGone => exact h.raise _ nofun
  | taken m rest _ _ _ hq => exact h.debounceTake hq
  | expired => exact h.debounceExpire
  | debounceProducerGone => exact h.raise _ nofun
  | evaluatedNone => exact h.evaluatedNone
  | evaluatedSome c f _ _ _ _ hc hf => exact h.evaluatedSome hc hf
  | deskTransmitted _ _ _ hw _ hn => exact h.deskTransmit hw hn
  | writeCompleted _ _ _ _ hg hn => exact h.writeComplete hg hn

theorem State.Inv.eventTaken {s : State} (h : s.Inv) : s.eventTaken.Inv := by
  unfold State.eventTaken
  split
  · exact h.withEnv _
  · exact h.withEnv _

/-- Settles O54. -/
theorem resetMeetsTheInvariant : Obligations.ResetMeetsTheInvariant := State.reset_inv

/-- Settles O55: taking the next event touches no register, and every rule keeps the invariant. -/
theorem stepKeepsTheInvariant : Obligations.StepKeepsTheInvariant :=
  fun _ _ h hstep => (act_did hstep).inv h.eventTaken

/-! ### Who writes each register (R20, R21, R45, R75)

One lemma per register: an event keeps it, or the event is one of those that write it. -/

theorem Did.currentHeight_kept_or {e : Event} {s t : State} (hd : Did e s t) (he : e ≠ .reset) :
    t.currentHeight = s.currentHeight ∨ ∃ b, e = .rxByte .desk b := by
  cases hd with
  | reset => exact absurd rfl he
  | relayed b | relayFault b => exact .inr ⟨b, rfl⟩
  | _ => exact .inl (by simp)

theorem Did.targetHeight_kept_or {e : Event} {s t : State} (hd : Did e s t) (he : e ≠ .reset) :
    t.targetHeight = s.targetHeight ∨ e = .agentStep .controlLoop ∨ ∃ h, e = .moveToHeight h := by
  cases hd with
  | reset => exact absurd rfl he
  | writeCompleted => exact .inr (.inl rfl)
  | moveAccepted h => exact .inr (.inr ⟨h, rfl⟩)
  | _ => exact .inl (by simp)

theorem Did.currentPanelKey_kept_or {e : Event} {s t : State} (hd : Did e s t) (he : e ≠ .reset) :
    t.currentPanelKey = s.currentPanelKey ∨ e = .agentStep .debouncer := by
  cases hd with
  | reset => exact absurd rfl he
  | taken | expired => exact .inr rfl
  | _ => exact .inl (by simp)

/-- What happens on one link reaches the registers of that link only (R21). -/
theorem Did.link_kept_or {e : Event} {s t : State} (hd : Did e s t) (he : e ≠ .reset) (M : Link) :
    t.link M = s.link M ∨ (∃ b, e = .rxByte M b) ∨ e = .rxTimeout M := by
  cases hd with
  | reset => exact absurd rfl he
  | acceptStart L | discardOne L | fill L | discardSeven L =>
    by_cases hM : M = L
    · subst hM
      exact .inr (.inl ⟨_, rfl⟩)
    · exact .inl (link_setLink_other _ s hM)
  | reported L =>
    by_cases hM : M = L
    · subst hM
      exact .inr (.inr rfl)
    · exact .inl (link_setLink_other _ s hM)
  | relayed | relayFault =>
    cases M with
    | desk => exact .inr (.inl ⟨_, rfl⟩)
    | panel => exact .inl rfl
  | queued | queueFault =>
    cases M with
    | desk => exact .inl rfl
    | panel => exact .inr (.inl ⟨_, rfl⟩)
  | _ => exact .inl rfl

theorem Did.panelQ_kept_or {e : Event} {s t : State} (hd : Did e s t) (he : e ≠ .reset) :
    t.panelQ = s.panelQ ∨ (∃ b, e = .rxByte .panel b) ∨ e = .agentStep .debouncer := by
  cases hd with
  | reset => exact absurd rfl he
  | queued b => exact .inr (.inl ⟨b, rfl⟩)
  | taken => exact .inr (.inr rfl)
  | _ => exact .inl (by simp)

theorem Did.d2pQ_kept_or {e : Event} {s t : State} (hd : Did e s t) (he : e ≠ .reset) :
    t.d2pQ = s.d2pQ ∨ (∃ b, e = .rxByte .desk b) ∨ e = .agentStep .panelWriter := by
  cases hd with
  | reset => exact absurd rfl he
  | relayed b => exact .inr (.inl ⟨b, rfl⟩)
  | panelStarted => exact .inr (.inr rfl)
  | _ => exact .inl (by simp)

theorem Did.shutdown_kept_or {e : Event} {s t : State} (hd : Did e s t) (he : e ≠ .reset) :
    t.shutdown = s.shutdown ∨ (e = .shutdown ∧ t.shutdown = true) := by
  cases hd with
  | reset => exact absurd rfl he
  | shutdownSet => exact .inr ⟨rfl, rfl⟩
  | _ => exact .inl (by simp)

theorem sent_panelTransmit (L : Link) (s : State) :
    (panelTransmit s).sent L = s.sent L ++ if .panel = L then [s.pwFrame] else [] := sent_of_transmission L .panel _ rfl

theorem sent_deskTransmit (L : Link) (s : State) :
    (deskTransmit s).sent L = s.sent L ++ if .desk = L then [s.txFrame] else [] := sent_of_transmission L .desk _ rfl

/-- Nothing leaves on link `L` but by its writer's turn (R75): R202 on the panel link, R235 on the desk link. -/
theorem Did.sent_kept_or {e : Event} {s t : State} (hd : Did e s t) (L : Link) :
    t.sent L = s.sent L ∨ (L = .panel ∧ e = .agentStep .panelWriter) ∨
      (L = .desk ∧ e = .agentStep .controlLoop ∧ s.txGap = 0 ∧ s.txRemaining ≠ 0 ∧ t = deskTransmit s) := by
  cases hd with
  | panelTransmitted =>
    cases L with
    | desk => exact .inl (by simp [sent_panelTransmit])
    | panel => exact .inr (.inl ⟨rfl, rfl⟩)
  | deskTransmitted _ _ _ _ hg hn =>
    cases L with
    | desk => exact .inr (.inr ⟨rfl, rfl, hg, hn, rfl⟩)
    | panel => exact .inl (by simp [sent_deskTransmit])
  | moveAccepted | moveRejected => exact .inl (sent_of_other_output L _ rfl rfl)
  | hostRead _ _ env _ ho =>
    rcases ho with ho | ⟨o, ho, hno⟩
    · exact .inl (sent_of_outputs_eq L ho)
    · exact .inl (sent_of_other_output L o (hno L) ho)
  | _ => exact .inl (sent_of_outputs_eq L (by simp))

/-- Settles O51: each clause is the contrapositive of its register's lemma. -/
theorem registersHaveTheirWriters : Obligations.RegistersHaveTheirWriters := by
  intro e s t he hact
  have hd := act_did hact
  refine ⟨(hd.currentHeight_kept_or he).resolve_left, (hd.targetHeight_kept_or he).resolve_left,
    (hd.currentPanelKey_kept_or he).resolve_left, fun L => (hd.link_kept_or he L).resolve_left,
    (hd.panelQ_kept_or he).resolve_left, (hd.d2pQ_kept_or he).resolve_left,
    fun hne => ((hd.shutdown_kept_or he).resolve_left hne).1, fun hne => ?_, fun hne => ?_⟩
  · rcases (hd.sent_kept_or .desk).resolve_left hne with ⟨hL, -⟩ | ⟨-, hturn, -⟩
    · cases hL
    · exact hturn
  · rcases (hd.sent_kept_or .panel).resolve_left hne with ⟨-, hturn⟩ | ⟨hL, -⟩
    · exact hturn
    · cases hL

/-- An event of link `L` leaves the registers of the other link alone (R21). -/
theorem link_eq_of_other {L M : Link} {e : Event} {s t : State} (hM : M ≠ L)
    (he : (∃ b, e = .rxByte L b) ∨ e = .rxTimeout L ∨ e = .rxError L) (hact : act e s = .next t) :
    t.link M = s.link M := by
  rcases he with ⟨b, rfl⟩ | rfl | rfl
  · exact ((act_did hact).link_kept_or nofun M).resolve_right (by simp [hM.symm])
  · exact ((act_did hact).link_kept_or nofun M).resolve_right (by simp [hM.symm])
  · exact ((act_did hact).link_kept_or nofun M).resolve_right (by simp)

/-- Settles O32: no event of one link writes the other link's registers. -/
theorem linksAreIndependent : Obligations.LinksAreIndependent := by
  intro L M b s t hM hact
  have hlink : t.link M = s.link M := by
    rcases hact with h | h | h
    · exact link_eq_of_other hM (.inl ⟨b, rfl⟩) h
    · exact link_eq_of_other hM (.inr (.inl rfl)) h
    · exact link_eq_of_other hM (.inr (.inr rfl)) h
  rw [hlink]
  exact ⟨rfl, rfl, rfl, rfl, rfl⟩

/-! ### The write of the control loop (R37, R41, R235, R236, R240) -/

/-- A write that only waits: its frame, flags and repetitions and what has been sent on the desk link stand as they were,
and so does the gap unless the event is a `TICK`. -/
structure WriteWaits (e : Event) (s t : State) : Prop where
  txFrame : t.txFrame = s.txFrame
  txClears : t.txClears = s.txClears
  txResignal : t.txResignal = s.txResignal
  clState : t.clState = .writing
  txRemaining : t.txRemaining = s.txRemaining
  txGap : e ≠ .tick → t.txGap = s.txGap
  sent : t.sent .desk = s.sent .desk

/-- Everything an event can do to a write under way: let it wait, send one repetition (R235), or complete it (R240). -/
theorem Did.write_cases {e : Event} {s t : State} (hd : Did e s t) (hw : s.clState = .writing) (he : e ≠ .reset) :
    WriteWaits e s t ∨
    (e = .agentStep .controlLoop ∧ s.txGap = 0 ∧ s.txRemaining ≠ 0 ∧ t = deskTransmit s) ∨
    (e = .agentStep .controlLoop ∧ s.txGap = 0 ∧ s.txRemaining = 0 ∧ t = writeComplete s) := by
  rcases hd.sent_kept_or .desk with hsent | ⟨hL, -⟩ | ⟨-, hturn⟩
  · cases hd with
    | reset => exact absurd rfl he
    | evaluatedNone _ _ _ hc | evaluatedSome _ _ _ _ _ hc => rw [hw] at hc; cases hc
    | deskTransmitted _ _ _ _ hg hn => exact .inr (.inl ⟨rfl, hg, hn, rfl⟩)
    | writeCompleted _ _ _ _ hg hn => exact .inr (.inr ⟨rfl, hg, hn, rfl⟩)
    | ticked => exact .inl ⟨rfl, rfl, rfl, hw, rfl, fun ht => absurd rfl ht, hsent⟩
    | _ =>
      exact .inl ⟨by simp, by simp, by simp, by simp [hw], by simp, fun _ => by simp, hsent⟩
  · cases hL
  · exact .inr (.inl hturn)

/-- Settles O42: the three cases of a write, one repetition counted down in the second. -/
theorem writeSendsEachRepetitionOnce : Obligations.WriteSendsEachRepetitionOnce := by
  intro e s t hw he hact
  rcases (act_did hact).write_cases hw he with h | ⟨hturn, hg, hn, rfl⟩ | ⟨hturn, hg, hn, rfl⟩
  · exact ⟨h.txFrame, h.txClears, h.txResignal, .inl ⟨h.clState, h.txRemaining, h.sent⟩⟩
  · exact ⟨rfl, rfl, rfl, .inr (.inl ⟨hturn, hw, (toNat_pred_add_one hn).symm, hg, rfl, sent_deskTransmit .desk s⟩)⟩
  · exact ⟨rfl, rfl, rfl, .inr (.inr ⟨hturn, rfl, hn, hg, rfl⟩)⟩

/-- While the gap is open the write waits, whatever comes (R236). -/
theorem write_waits_of_gap {e : Event} {s t : State} (hw : s.clState = .writing) (he : e ≠ .reset) (hg : 0 < s.txGap)
    (hact : act e s = .next t) : WriteWaits e s t := by
  rcases (act_did hact).write_cases hw he with h | ⟨-, h0, -⟩ | ⟨-, h0, -⟩
  · exact h
  · omega
  · omega

/-- An open gap shrinks by the `TICK`s alone, and by one each (R41, R300). -/
theorem txGap_add_count {e : Event} {s t : State} (hw : s.clState = .writing) (he : e ≠ .reset) (hg : 0 < s.txGap)
    (hact : act e s = .next t) : t.txGap + [e].count .tick = s.txGap := by
  by_cases htick : e = .tick
  · subst htick
    cases hact
    simp only [tick_txGap, List.count_singleton_self]
    omega
  · rw [(write_waits_of_gap hw he hg hact).txGap htick, List.count_eq_zero.2 (by simp [Ne.symm htick])]
    rfl

/-- Settles O43, by induction on the events: fewer `TICK`s than the gap leave it open, so the first event only lets the
write wait, and the rest has fewer `TICK`s than what is left. -/
theorem repetitionsAreSpaced : Obligations.RepetitionsAreSpaced := by
  intro events
  induction events with
  | nil =>
    rintro s t hw - - ⟨⟩
    exact ⟨rfl, hw, rfl, rfl⟩
  | cons e rest ih =>
    intro s t hw hreset hticks hrun
    obtain ⟨u, hact, hrest⟩ := runEvents_cons_next hrun
    have he : e ≠ .reset := fun h => hreset (h ▸ List.mem_cons_self)
    have hcount : (e :: rest).count .tick = [e].count .tick + rest.count .tick := List.count_append (l₁ := [e])
    have hg : 0 < s.txGap := by omega
    have hwaits := write_waits_of_gap hw he hg hact
    have hgap := txGap_add_count hw he hg hact
    obtain ⟨hsent, hstate, hremaining, hleft⟩ :=
      ih u t hwaits.clState (fun h => hreset (List.mem_cons_of_mem _ h)) (by omega) hrest
    exact ⟨hsent.trans hwaits.sent, hstate, hremaining.trans hwaits.txRemaining, by omega⟩

/-! ### Stops last until `RESET` (R32, R43, R48 (6) and (7), R281, R282) -/

theorem get_set_of_stopped {α : Type} {s : State} {A B : Agent} (p : PerAgent α) (v : α) (hA : s.run.get A ≠ .running)
    (hB : s.run.get B = .running) : (p.set B v).get A = p.get A :=
  PerAgent.get_set_other p v fun h => hA (h ▸ hB)

theorem raise_of_stopped {s : State} {A B : Agent} (c : Cause) (hA : s.run.get A ≠ .running)
    (hB : s.run.get B = .running) :
    (s.raise B c).run.get A = s.run.get A ∧ (s.raise B c).cause.get A = s.cause.get A :=
  ⟨get_set_of_stopped _ _ hA hB, get_set_of_stopped _ _ hA hB⟩

/-- Only an agent that is Running halts or faults, so one that has left Running stays as it stopped. -/
theorem Did.stopped_kept {e : Event} {s t : State} (hd : Did e s t) (he : e ≠ .reset) {A : Agent}
    (hA : s.run.get A ≠ .running) : t.run.get A = s.run.get A ∧ t.cause.get A = s.cause.get A := by
  cases hd with
  | reset => exact absurd rfl he
  | halted B _ hB => exact ⟨get_set_of_stopped _ _ hA hB, rfl⟩
  | readError L _ hB => exact raise_of_stopped .portRead hA hB
  | writeError L _ hB => exact raise_of_stopped .portWrite hA hB
  | relayFault _ _ hB => exact raise_of_stopped (B := .deskReader) .channelSend hA hB
  | queueFault _ _ hB => exact raise_of_stopped (B := .panelReader) .channelSend hA hB
  | panelProducerGone _ hB => exact raise_of_stopped (B := .panelWriter) .channelReceive hA hB
  | debounceProducerGone _ hB => exact raise_of_stopped (B := .debouncer) .channelReceive hA hB
  | _ => exact ⟨by simp, by simp⟩

/-- The turn of an agent that is not Running leaves the state as it is. -/
theorem agentStep_of_stopped {A : Agent} {s : State} (hA : s.run.get A ≠ .running) : agentStep A s = .next s :=
  (agentStep_eq_self_iff A s).2 (enabled_of_stopped (by simpa [State.isRunning] using hA))

/-- Settles O52. -/
theorem stopsLastUntilReset : Obligations.StopsLastUntilReset := by
  refine ⟨fun e s t he hact => ⟨fun hs => ?_, fun A hA => (act_did hact).stopped_kept he hA⟩,
    fun A s hA => agentStep_of_stopped hA⟩
  rcases (act_did hact).shutdown_kept_or he with h | ⟨-, h⟩
  · exact h.trans hs
  · exact h

/-! ### The reset values (R47) -/

theorem resetBlock_link (L : Link) (s : State) : s.resetBlock.link L = LinkState.reset := by
  cases L <;> rfl

theorem resetBlock_agent (A : Agent) (s : State) :
    s.resetBlock.run.get A = .running ∧ s.resetBlock.cause.get A = .noFault :=
  ⟨PerAgent.get_all _ A, PerAgent.get_all _ A⟩

/-- Settles O49: every register is read off R47's table. -/
theorem resetRestoresEveryRegister : Obligations.ResetRestoresEveryRegister := by
  intro s
  refine ⟨s.resetBlock, rfl, fun L => ?_, rfl, rfl, rfl, rfl, rfl, rfl, rfl, rfl, rfl, rfl, rfl, rfl, rfl, rfl, rfl,
    fun A => resetBlock_agent A s⟩
  rw [resetBlock_link]
  exact ⟨rfl, rfl, rfl, rfl⟩

end Sys2Proof.Machine
end

section
/-! Proofs of the statements of 20_memory.md: the way of a desk message from `d2p_q` to the panel link (R66, R77, R201 to
R203), and the status reads of the host (R73, R252 to R255). -/
namespace Sys2Proof

/-- A message the desk link's decoder can make has a frame: only a height out of its field's range has none (R140). -/
theorem encD2P_of_wellFormed {m : D2P} (hw : m.instr.wellFormed = true) : ∃ f, encD2P m = some f := by
  cases m with
  | height h =>
    obtain ⟨hlo, hhi⟩ := (heightInRange_iff h).1 hw
    exact ⟨_, (encHeight_some_iff h _).2 ⟨hlo, hhi, rfl⟩⟩
  | unknownD a b c d k => exact ⟨_, rfl⟩

end Sys2Proof

namespace Sys2Proof.Machine

/-! ### The parts of the stream to the panel (R77) -/

/-- The frame the panel writer has started and still has to send, if there is one: the middle part of
`State.panelStream`. -/
def State.beingSent (s : State) : List Frame :=
  if s.pwState = .writing ∧ s.pwRemaining ≠ 0 then [s.pwFrame] else []

theorem panelStream_eq (s : State) : s.panelStream = s.sent .panel ++ s.beingSent ++ framesOf s.d2pQ := rfl

theorem beingSent_of_idle {s : State} (hi : s.pwState = .idle) : s.beingSent = [] :=
  if_neg fun ⟨hw, _⟩ => by rw [hi] at hw; cases hw

theorem beingSent_of_nothingLeft {s : State} (hn : s.pwRemaining = 0) : s.beingSent = [] :=
  if_neg fun ⟨_, hne⟩ => hne hn

theorem beingSent_of_writing {s : State} (hw : s.pwState = .writing) (hn : s.pwRemaining ≠ 0) :
    s.beingSent = [s.pwFrame] := if_pos ⟨hw, hn⟩

theorem beingSent_congr {s t : State} (hstate : t.pwState = s.pwState) (hremaining : t.pwRemaining = s.pwRemaining)
    (hframe : t.pwFrame = s.pwFrame) : t.beingSent = s.beingSent := by
  unfold State.beingSent
  rw [hstate, hremaining, hframe]

theorem framesOf_cons {m : D2P} {f : Frame} (hf : encD2P m = some f) (q : List D2P) :
    framesOf (m :: q) = f :: framesOf q := List.filterMap_cons_some hf

theorem framesOf_push {m : D2P} {f : Frame} (hf : encD2P m = some f) (q : List D2P) :
    framesOf (q ++ [m]) = framesOf q ++ [f] := by
  rw [framesOf, List.filterMap_append]
  exact congrArg _ (framesOf_cons hf [])

/-! ### The panel writer's turn moves a frame along the stream (R201 to R203) -/

/-- A repeat count of at most `RELAY_TIMES` = 1 is used up by one transmission (R202, notes/assumptions/9.md). -/
theorem State.Inv.pwRemaining_pred {s : State} (h : s.Inv) (hn : s.pwRemaining ≠ 0) : s.pwRemaining - 1 = 0 := by
  have hle : s.pwRemaining.toNat ≤ 1 := h.pwRemainingRange
  bv_omega

/-- R201: the head of the queue becomes the frame being sent. -/
theorem panelStream_panelStarted {s : State} {m : D2P} {rest : List D2P} {f : Frame} (hi : s.pwState = .idle)
    (hq : s.d2pQ = m :: rest) (hf : encD2P m = some f) :
    ({ s with d2pQ := rest, pwFrame := f, pwRemaining := Config.relayTimes, pwState := .writing } : State).panelStream =
      s.panelStream := by
  calc
    _ = s.sent .panel ++ [f] ++ framesOf rest := rfl
    _ = s.sent .panel ++ s.beingSent ++ framesOf s.d2pQ := by
      rw [beingSent_of_idle hi, hq, framesOf_cons hf]
      simp
    _ = s.panelStream := (panelStream_eq s).symm

/-- R202: the frame being sent becomes the last one sent. -/
theorem panelStream_panelTransmit {s : State} (h : s.Inv) (hw : s.pwState = .writing)
    (hn : s.pwRemaining ≠ 0) : (panelTransmit s).panelStream = s.panelStream := by
  have hleft : (panelTransmit s).beingSent = [] := beingSent_of_nothingLeft (h.pwRemaining_pred hn)
  rw [panelStream_eq, panelStream_eq, sent_panelTransmit, hleft, beingSent_of_writing hw hn]
  simp

/-- R203: no frame is being sent before or after. -/
theorem panelStream_panelComplete {s : State} (hn : s.pwRemaining = 0) :
    (panelComplete s).panelStream = s.panelStream := by
  have hleft : (panelComplete s).beingSent = [] := beingSent_of_idle rfl
  rw [panelStream_eq, panelStream_eq, hleft, beingSent_of_nothingLeft hn]
  rfl

/-- No turn of the panel writer loses, doubles or reorders a frame. -/
theorem Did.panelStream_of_panelWriter {s t : State} (hd : Did (.agentStep .panelWriter) s t) (h : s.Inv) :
    t.panelStream = s.panelStream := by
  cases hd with
  | nothing | halted | panelProducerGone => rfl
  | hostRead _ _ _ he => simp at he
  | panelStarted m rest f _ _ _ hi hq hf => exact panelStream_panelStarted hi hq hf
  | panelTransmitted _ _ _ hw _ hn => exact panelStream_panelTransmit h hw hn
  | panelCompleted _ _ _ _ _ hn => exact panelStream_panelComplete hn

/-! ### Every other event leaves the stream alone or appends to its queue -/

/-- `pw_state`, `pw_frame` and `pw_remaining` are the panel writer's own (R42). -/
theorem Did.beingSent_kept {e : Event} {s t : State} (hd : Did e s t) (he : e ≠ .reset)
    (hp : e ≠ .agentStep .panelWriter) : t.beingSent = s.beingSent := by
  cases hd with
  | reset => exact absurd rfl he
  | panelStarted | panelTransmitted | panelCompleted | panelProducerGone => exact absurd rfl hp
  | _ => exact beingSent_congr (by simp) (by simp) (by simp)

/-- All that enters `d2p_q` is the message of a valid frame, at the tail, in the step its last byte arrives in (R66, R200). -/
theorem Did.d2pQ_kept_or_pushed {e : Event} {s t : State} (hd : Did e s t) (he : e ≠ .reset)
    (hp : e ≠ .agentStep .panelWriter) :
    t.d2pQ = s.d2pQ ∨ ∃ b m, e = .rxByte .desk b ∧ m.instr.wellFormed = true ∧ t.d2pQ = s.d2pQ ++ [m] := by
  cases hd with
  | reset => exact absurd rfl he
  | panelStarted => exact absurd rfl hp
  | relayed b _ _ _ _ hv => exact .inr ⟨b, _, rfl, decD2P_wellFormed hv, rfl⟩
  | _ => exact .inl (by simp)

/-- Settles O60: the panel writer's turn moves a frame along the stream, and any other event keeps what is sent and being
sent and at most pushes one message, which has a frame. -/
theorem panelReceivesInOrder : Obligations.PanelReceivesInOrder := by
  intro e s t h he hact
  have hd := act_did hact
  by_cases hp : e = .agentStep .panelWriter
  · subst hp
    exact .inl (hd.panelStream_of_panelWriter h)
  have hsent : t.sent .panel = s.sent .panel := by
    rcases hd.sent_kept_or .panel with hsent | ⟨-, hturn⟩ | ⟨hL, -⟩
    · exact hsent
    · exact absurd hturn hp
    · cases hL
  have hbeing := hd.beingSent_kept he hp
  rcases hd.d2pQ_kept_or_pushed he hp with hq | ⟨b, m, hrx, hm, hq⟩
  · exact .inl (by rw [panelStream_eq, panelStream_eq, hsent, hbeing, hq])
  · obtain ⟨f, hf⟩ := encD2P_of_wellFormed hm
    refine .inr ⟨b, m, f, hrx, hf, hq, ?_⟩
    rw [panelStream_eq, panelStream_eq, hsent, hbeing, hq, framesOf_push hf, List.append_assoc _ (framesOf s.d2pQ)]

/-! ### The status reads (R73, R252 to R255) -/

/-- The second read of `desk_frame_counts()` returns the first one's count and ends the call (R73, R254). -/
theorem readDropped_desk_of_found {s : State} {n : Count} (hn : s.env.deskFound = some n) :
    readDropped .desk s = { s with env := { s.env with
      deskFound := none
      outputs := .frameCounts .desk n s.desk.droppedByteCount :: s.env.outputs } } := by
  simp only [readDropped, hn]
  rfl

/-- The second read of `panel_frame_counts()` returns the first one's count and ends the call (R73, R255). -/
theorem readDropped_panel_of_found {s : State} {n : Count} (hn : s.env.panelFound = some n) :
    readDropped .panel s = { s with env := { s.env with
      panelFound := none
      outputs := .frameCounts .panel n s.panel.droppedByteCount :: s.env.outputs } } := by
  simp only [readDropped, hn]
  rfl

/-- Settles O47: the first four reads answer without a condition, the second read of a pair by what the first one kept. -/
theorem hostReadsReturnTheRegisters : Obligations.HostReadsReturnTheRegisters := fun _ =>
  ⟨rfl, rfl, rfl, rfl, fun _ hn => congrArg Host.Outcome.next (readDropped_desk_of_found hn),
    fun _ hn => congrArg Host.Outcome.next (readDropped_panel_of_found hn)⟩

end Sys2Proof.Machine
end

section
/-! Proofs of the statements of 30_encoding.md: what a link's decoder accepts and reads (R101 to R107), which bytes of a frame
it reads (R104), and that the block transmits valid frames only (R107, R147). -/
namespace Sys2Proof

/-! ### What each key byte decodes to (R104, R151 to R159) -/

theorem decP2D_up {f : Frame} (hkey : f.b2 = 0x01) : decP2D f = .up := by simp [decP2D, hkey]

theorem decP2D_down {f : Frame} (hkey : f.b2 = 0x02) : decP2D f = .down := by simp [decP2D, hkey]

theorem decP2D_noKey {f : Frame} (hkey : f.b2 = 0x03) : decP2D f = .noKey := by simp [decP2D, hkey]

theorem decP2D_presetOne {f : Frame} (hkey : f.b2 = 0x06) :
    decP2D f = .presetOne (heightOfField Config.offsetPreset f.b4 f.b3) := by simp [decP2D, hkey]

theorem decP2D_presetTwo {f : Frame} (hkey : f.b2 = 0x07) :
    decP2D f = .presetTwo (heightOfField Config.offsetPreset f.b4 f.b3) := by simp [decP2D, hkey]

theorem decP2D_presetThree {f : Frame} (hkey : f.b2 = 0x08) :
    decP2D f = .presetThree (heightOfField Config.offsetPreset f.b4 f.b3) := by simp [decP2D, hkey]

theorem decD2P_height {f : Frame} (hkey : f.b2 = 0x00) :
    decD2P f = .height (heightOfField Config.offsetDesk f.b3 f.b4) := if_pos hkey

/-! ### Neither decoder reads START or END (R104) -/

theorem decP2D_withEnds (f : Frame) (b0 b6 : Byte) : decP2D { f with b0 := b0, b6 := b6 } = decP2D f := rfl

theorem decD2P_withEnds (f : Frame) (b0 b6 : Byte) : decD2P { f with b0 := b0, b6 := b6 } = decD2P f := rfl

/-- Frames that agree on B1 to B5 differ in START and END only. -/
theorem eq_withEnds {f g : Frame} (h1 : f.b1 = g.b1) (h2 : f.b2 = g.b2) (h3 : f.b3 = g.b3) (h4 : f.b4 = g.b4)
    (h5 : f.b5 = g.b5) : g = { f with b0 := g.b0, b6 := g.b6 } := by
  simp [h1, h2, h3, h4, h5]

/-- Settles O8: by the key byte for the kinds that read less than B1 to B5, and for the rest because the two frames differ in
START and END only. -/
theorem decodersReadOnlyWhatTheKindNeeds : Obligations.DecodersReadOnlyWhatTheKindNeeds := by
  intro f g h2
  refine ⟨fun hkey => ?_, fun hkey h3 h4 => ?_, fun hkey h3 h4 => ?_, fun h1 h3 h4 h5 => ?_⟩
  · simp only [List.mem_cons, List.not_mem_nil, or_false] at hkey
    rcases hkey with hkey | hkey | hkey
    · rw [decP2D_up hkey, decP2D_up (h2 ▸ hkey)]
    · rw [decP2D_down hkey, decP2D_down (h2 ▸ hkey)]
    · rw [decP2D_noKey hkey, decP2D_noKey (h2 ▸ hkey)]
  · simp only [List.mem_cons, List.not_mem_nil, or_false] at hkey
    rcases hkey with hkey | hkey | hkey
    · rw [decP2D_presetOne hkey, decP2D_presetOne (h2 ▸ hkey), h3, h4]
    · rw [decP2D_presetTwo hkey, decP2D_presetTwo (h2 ▸ hkey), h3, h4]
    · rw [decP2D_presetThree hkey, decP2D_presetThree (h2 ▸ hkey), h3, h4]
  · rw [decD2P_height hkey, decD2P_height (h2 ▸ hkey), h3, h4]
  · rw [eq_withEnds h1 h2 h3 h4 h5, decP2D_withEnds, decD2P_withEnds]
    exact ⟨rfl, rfl⟩

/-! ### The decoder of a link (R107) -/

theorem instrOfFrame_wellFormed (L : Link) {f : Frame} (hv : frameValid f = true) :
    (instrOfFrame L f).wellFormed = true := by
  cases L with
  | desk => exact decD2P_wellFormed hv
  | panel => exact decP2D_wellFormed hv

/-- Settles O14: a link's decoder answers on a valid frame only, and what it answers there is `instrOfFrame`. -/
theorem decodersYieldWellFormedInstructions : Obligations.DecodersYieldWellFormedInstructions := by
  intro L f
  refine ⟨fun hv => ⟨_, decodeFrame_of_valid L f hv⟩, fun i hi => ?_⟩
  obtain ⟨hv, rfl⟩ := (decodeFrame_ok_iff L f i).1 hi
  exact ⟨hv, Machine.instrOfFrame_link L f, instrOfFrame_wellFormed L hv⟩

/-- Settles O15: both decoders are evaluated on the written-out bytes. -/
theorem writtenWordsDecode : Obligations.WrittenWordsDecode := by
  unfold Obligations.WrittenWordsDecode
  decide

end Sys2Proof

namespace Sys2Proof.Machine

/-! ### What leaves the block (R16, R107, R147, R161) -/

/-- An output that is no transmission, or the transmission of a valid frame. -/
def TxValid (o : Output) : Prop := ∀ (L : Link) (f : Frame), o = .tx L f → frameValid f = true

theorem txValid_tx (L : Link) {f : Frame} (hv : frameValid f = true) : TxValid (.tx L f) := by
  rintro _ _ ⟨⟩
  exact hv

theorem txValid_of_txOn {o : Output} (ho : ∀ L, txOn L o = none) : TxValid o := by
  rintro L f rfl
  simpa [txOn] using ho L

/-- Only the two transmissions put a frame out, and R201 and R233 made it valid when the write began. -/
theorem Did.outputs_kept_or {e : Event} {s t : State} (hd : Did e s t) (h : s.Inv) :
    t.env.outputs = s.env.outputs ∨ ∃ o, t.env.outputs = o :: s.env.outputs ∧ TxValid o := by
  cases hd with
  | panelTransmitted _ _ _ hw => exact .inr ⟨_, rfl, txValid_tx .panel (h.pwFrameValid hw)⟩
  | deskTransmitted _ _ _ hw => exact .inr ⟨_, rfl, txValid_tx .desk (h.txFrameValid hw)⟩
  | moveAccepted | moveRejected => exact .inr ⟨_, rfl, nofun⟩
  | hostRead _ _ env _ ho => exact ho.imp_right fun ⟨o, ho, hno⟩ => ⟨o, ho, txValid_of_txOn hno⟩
  | _ => exact .inl (by simp)

/-- Settles O57. -/
theorem sentFramesAreValid : Obligations.SentFramesAreValid := by
  intro s t h hstep
  have hout := (act_did hstep).outputs_kept_or h.eventTaken
  rwa [eventTaken_outputs] at hout

end Sys2Proof.Machine
end

section
/-! Proofs of the statements of 40_codec.md: checksum and validity (R130, R131), the frames of the encoders (R140 to R149),
what each key byte decodes to (R150 to R159), the round trips in both directions (R160 to R163), and that no encoder refuses
inside the block (R140). -/
namespace Sys2Proof

/-! ### Checksum and validity (R130, R131) -/

theorem checksum_toNat (b1 b2 b3 b4 : Byte) :
    (checksum b1 b2 b3 b4).toNat = (b1.toNat + b2.toNat + b3.toNat + b4.toNat) % 256 := by
  simp [checksum, BitVec.toNat_add]

theorem eq_checksum_iff (k b1 b2 b3 b4 : Byte) :
    k = checksum b1 b2 b3 b4 ↔ k.toNat = (b1.toNat + b2.toNat + b3.toNat + b4.toNat) % 256 := by
  rw [← checksum_toNat, BitVec.toNat_inj]

theorem frameValid_iff_sum (f : Frame) :
    frameValid f = true ↔
      f.b0 = 0x68 ∧ f.b6 = 0x16 ∧ f.b5.toNat = (f.b1.toNat + f.b2.toNat + f.b3.toNat + f.b4.toNat) % 256 := by
  rw [frameValid_iff, eq_checksum_iff]
  rfl

/-- Settles O1: the sum is commutative, and the examples are evaluated. -/
theorem checksumIsSumModulo256 : Obligations.ChecksumIsSumModulo256 := by
  refine ⟨checksum_toNat, fun b1 b2 b3 b4 => ⟨?_, ?_, ?_⟩, by decide⟩
  · rw [checksum, checksum, add_comm b2 b1]
  · rw [checksum, checksum, add_right_comm b1 b3 b2]
  · rw [checksum, checksum, add_right_comm (b1 + b2) b4 b3]

/-! ### A valid frame is its bytes 1 to 4 (R131) -/

/-- The valid frame with the given bytes 1 to 4. -/
def validFrame (b1 b2 b3 b4 : Byte) : Frame := verbatimFrame b1 b2 b3 b4 (checksum b1 b2 b3 b4)

theorem frameValid_validFrame (b1 b2 b3 b4 : Byte) : frameValid (validFrame b1 b2 b3 b4) = true := by
  simp [validFrame, frameValid_verbatimFrame, unknownSumOk, checksum]

theorem knownFrame_eq_validFrame (key b3 b4 : Byte) : knownFrame key b3 b4 = validFrame 0x01 key b3 b4 := rfl

theorem verbatimFrame_of_valid {f : Frame} (hv : frameValid f = true) :
    verbatimFrame f.b1 f.b2 f.b3 f.b4 f.b5 = f := by
  obtain ⟨hstart, hend, -⟩ := (frameValid_iff f).1 hv
  rw [verbatimFrame, ← hstart, ← hend]

theorem validFrame_of_valid {f : Frame} (hv : frameValid f = true) : validFrame f.b1 f.b2 f.b3 f.b4 = f := by
  obtain ⟨-, -, hsum⟩ := (frameValid_iff f).1 hv
  rw [validFrame, ← hsum, verbatimFrame_of_valid hv]

/-- A frame of a known kind is a given valid frame when the two agree on bytes 1 to 4. -/
theorem knownFrame_eq_iff {f : Frame} (hv : frameValid f = true) (key b3 b4 : Byte) :
    knownFrame key b3 b4 = f ↔ f.b1 = 0x01 ∧ f.b2 = key ∧ f.b3 = b3 ∧ f.b4 = b4 := by
  constructor
  · rintro rfl
    exact ⟨rfl, rfl, rfl, rfl⟩
  · rintro ⟨h1, rfl, rfl, rfl⟩
    rw [knownFrame_eq_validFrame, ← h1, validFrame_of_valid hv]

/-- R9 reads a frame as a 56-bit word and back. -/
def frameEquivWord : Frame ≃ FrameWord := ⟨frameWord, wordFrame, wordFrame_frameWord, frameWord_wordFrame⟩

/-- A valid frame is determined by its bytes 1 to 4, which are arbitrary. -/
def validFrameEquiv : { f : Frame // frameValid f = true } ≃ Byte × Byte × Byte × Byte where
  toFun f := (f.1.b1, f.1.b2, f.1.b3, f.1.b4)
  invFun b := ⟨validFrame b.1 b.2.1 b.2.2.1 b.2.2.2, frameValid_validFrame _ _ _ _⟩
  left_inv f := Subtype.ext (validFrame_of_valid f.2)
  right_inv _ := rfl

theorem natCard_bitVec (n : Nat) : Nat.card (BitVec n) = 2 ^ n :=
  (Nat.card_congr BitVec.equivFin.toEquiv).trans (Nat.card_fin _)

/-- Settles O2: a frame is a word of 56 bits, a valid one its four bytes 1 to 4. -/
theorem validFramesAreCounted : Obligations.ValidFramesAreCounted := by
  refine ⟨frameValid_iff_sum, ?_, ?_, by decide⟩
  · rw [Nat.card_congr frameEquivWord, natCard_bitVec]
  · rw [Nat.card_congr validFrameEquiv]
    simp only [Nat.card_prod, natCard_bitVec]
    rfl

/-! ### The height field read back (R97, R164) -/

theorem fieldMsb_eq {net : Nat} {msb : Byte} (h : msb.toNat = net / 256) : fieldMsb net = msb := by
  rw [fieldMsb, ← h, BitVec.ofNat_toNat, BitVec.setWidth_eq]

theorem fieldLsb_eq {net : Nat} {lsb : Byte} (h : lsb.toNat = net % 256) : fieldLsb net = lsb := by
  rw [fieldLsb, ← h, BitVec.ofNat_toNat, BitVec.setWidth_eq]

/-- Reading back what was written of a height above its offset. -/
theorem heightOfField_field {offset : Nat} {h : Mm} (hlo : offset ≤ h.toNat) (hhi : h.toNat - offset ≤ 65535) :
    heightOfField offset (fieldMsb (h.toNat - offset)) (fieldLsb (h.toNat - offset)) = h := by
  have hlt := h.isLt
  apply BitVec.eq_of_toNat_eq
  rw [heightOfField, fieldMsb_toNat _ hhi, fieldLsb_toNat, BitVec.toNat_ofNat]
  omega

/-- Writing what was read from a field: its two bytes again. -/
theorem field_heightOfField {offset : Nat} (msb lsb : Byte) (ho : offset ≤ 650) :
    fieldMsb ((heightOfField offset msb lsb).toNat - offset) = msb ∧
      fieldLsb ((heightOfField offset msb lsb).toNat - offset) = lsb := by
  have hm := msb.isLt
  have hl := lsb.isLt
  rw [heightOfField_toNat offset msb lsb ho]
  exact ⟨fieldMsb_eq (by omega), fieldLsb_eq (by omega)⟩

theorem encPreset_heightOfField (key msb lsb : Byte) :
    encPreset key (heightOfField Config.offsetPreset msb lsb) = some (knownFrame key lsb msb) := by
  obtain ⟨hmsb, hlsb⟩ := field_heightOfField (offset := Config.offsetPreset) msb lsb (by decide)
  rw [encPreset, if_pos (presetInRange_heightOfField msb lsb)]
  exact congrArg some (by rw [hmsb, hlsb])

theorem encHeight_heightOfField (msb lsb : Byte) :
    encHeight (heightOfField Config.offsetDesk msb lsb) = some (knownFrame 0x00 msb lsb) := by
  obtain ⟨hmsb, hlsb⟩ := field_heightOfField (offset := Config.offsetDesk) msb lsb (by decide)
  rw [encHeight, if_pos (heightInRange_heightOfField msb lsb)]
  exact congrArg some (by rw [hmsb, hlsb])

/-! ### The encoders, byte by byte (R140 to R149) -/

/-- Settles O3: the frames are the encoders' own, and the last clause is R131 of such a frame. -/
theorem encodersOfKeysAndUnknowns : Obligations.EncodersOfKeysAndUnknowns := by
  refine ⟨rfl, rfl, rfl, fun _ _ _ _ _ => rfl, fun _ _ _ _ _ => rfl, fun a b c d k => ?_⟩
  rw [frameValid_iff_sum]
  exact (and_iff_right rfl).trans (and_iff_right rfl)

theorem encPreset_of_field (key : Byte) {h : Mm} (hr : h.toNat ≤ 65535) {lsb msb : Byte}
    (hl : lsb.toNat = h.toNat % 256) (hm : msb.toNat = h.toNat / 256) : encPreset key h = some (knownFrame key lsb msb) := by
  rw [encPreset_some_iff, fieldLsb_eq hl, fieldMsb_eq hm]
  exact ⟨hr, rfl⟩

/-- Settles O4: one fact about the preset field, for the three key bytes; the examples are evaluated. -/
theorem presetEncodersAreLittleEndian : Obligations.PresetEncodersAreLittleEndian := by
  refine ⟨fun h hr lsb msb hl hm => ⟨?_, ?_, ?_⟩, by decide⟩
  · exact encPreset_of_field 0x06 hr hl hm
  · exact encPreset_of_field 0x07 hr hl hm
  · exact encPreset_of_field 0x08 hr hl hm

/-- Settles O5: `encHeight_some_iff` with the two field bytes given by their values; the examples are evaluated. -/
theorem heightEncoderIsBigEndian : Obligations.HeightEncoderIsBigEndian := by
  refine ⟨fun h hlo hhi msb lsb hm hl => (encHeight_some_iff h _).2 ⟨hlo, hhi, ?_⟩, by decide⟩
  rw [fieldMsb_eq hm, fieldLsb_eq hl]
  rfl

theorem encPreset_none_iff (key : Byte) (h : Mm) : encPreset key h = none ↔ 65535 < h.toNat := by
  rw [encPreset, ite_eq_right_iff, presetInRange_iff]
  simp only [reduceCtorEq, imp_false, not_le]

theorem encHeight_none_iff (h : Mm) : encHeight h = none ↔ h.toNat < 650 ∨ 66185 < h.toNat := by
  rw [encHeight, ite_eq_right_iff, heightInRange_iff]
  simp only [reduceCtorEq, imp_false]
  omega

/-! ### A message in range has a frame, and one of a known kind a valid one (R140, R161) -/

theorem encP2D_of_inRange {m : P2D} (hr : m.inRange = true) : ∃ f, encP2D m = some f := by
  cases m with
  | up | down | noKey | unknownP => exact ⟨_, rfl⟩
  | presetOne h | presetTwo h | presetThree h => exact ⟨_, if_pos hr⟩

theorem encD2P_of_inRange {m : D2P} (hr : m.inRange = true) : ∃ f, encD2P m = some f := by
  cases m with
  | height h => exact ⟨_, if_pos hr⟩
  | unknownD => exact ⟨_, rfl⟩

theorem P2D.inRange_of_wellFormed {m : P2D} (hw : m.instr.wellFormed = true) : m.inRange = true := by
  cases m with
  | up | down | noKey | unknownP => rfl
  | presetOne h | presetTwo h | presetThree h => exact hw

/-- A known kind has a frame only for an operand that a valid frame can carry. -/
theorem wellFormed_of_encP2D {m : P2D} {f : Frame} (hknown : ∀ a b c d k : Byte, m ≠ .unknownP a b c d k)
    (he : encP2D m = some f) : m.instr.wellFormed = true := by
  cases m with
  | up | down | noKey => rfl
  | presetOne h | presetTwo h | presetThree h => exact (presetInRange_iff h).2 ((encPreset_some_iff _ h f).1 he).1
  | unknownP a b c d k => exact absurd rfl (hknown a b c d k)

theorem wellFormed_of_encHeight {h : Mm} {f : Frame} (he : encD2P (.height h) = some f) :
    (D2P.height h).instr.wellFormed = true := by
  obtain ⟨hlo, hhi, -⟩ := (encHeight_some_iff h f).1 he
  exact (heightInRange_iff h).2 ⟨hlo, hhi⟩

theorem sum_and_valid {f : Frame} (hv : frameValid f = true) :
    f.b5.toNat = (f.b1.toNat + f.b2.toNat + f.b3.toNat + f.b4.toNat) % 256 ∧ frameValid f = true :=
  ⟨((frameValid_iff_sum f).1 hv).2.2, hv⟩

/-- Settles O13: a known kind that has a frame is well formed, so its frame is valid. -/
theorem knownKindsEncodeToValidFrames : Obligations.KnownKindsEncodeToValidFrames :=
  ⟨fun _ _ hknown he => sum_and_valid (encP2D_valid (wellFormed_of_encP2D hknown he) he),
    fun _ _ he => sum_and_valid (encD2P_valid (wellFormed_of_encHeight he) he)⟩

/-! ### What each key byte decodes to (R151 to R159) -/

theorem decP2D_unknown {f : Frame} (hkey : f.b2 ∉ [0x01, 0x02, 0x03, 0x06, 0x07, 0x08]) :
    decP2D f = .unknownP f.b1 f.b2 f.b3 f.b4 f.b5 := by
  simp only [List.mem_cons, List.not_mem_nil, or_false, not_or] at hkey
  obtain ⟨h1, h2, h3, h6, h7, h8⟩ := hkey
  rw [decP2D, if_neg h1, if_neg h2, if_neg h3, if_neg h6, if_neg h7, if_neg h8]

theorem decD2P_unknown {f : Frame} (hkey : f.b2 ≠ 0x00) : decD2P f = .unknownD f.b1 f.b2 f.b3 f.b4 f.b5 := if_neg hkey

theorem presetField_toNat (msb lsb : Byte) :
    (heightOfField Config.offsetPreset msb lsb).toNat = 256 * msb.toNat + lsb.toNat := by
  rw [heightOfField_toNat _ _ _ (by decide), Config.offsetPreset, Nat.zero_add]

/-- Settles O7: one equation of a decoder for each key byte, and the value of its height field. -/
theorem decodersSelectByKeyByte : Obligations.DecodersSelectByKeyByte := fun f =>
  ⟨decP2D_up, decP2D_down, decP2D_noKey,
    fun hkey => ⟨_, decP2D_presetOne hkey, presetField_toNat f.b4 f.b3⟩,
    fun hkey => ⟨_, decP2D_presetTwo hkey, presetField_toNat f.b4 f.b3⟩,
    fun hkey => ⟨_, decP2D_presetThree hkey, presetField_toNat f.b4 f.b3⟩,
    decP2D_unknown,
    fun hkey => ⟨_, decD2P_height hkey, heightOfField_toNat Config.offsetDesk f.b3 f.b4 (by decide)⟩,
    decD2P_unknown⟩

/-- A frame with a known panel key byte decodes to one of the six known kinds. -/
theorem decP2D_ne_unknown {f : Frame} (hkey : f.b2 ∈ [0x01, 0x02, 0x03, 0x06, 0x07, 0x08]) (a b c d k : Byte) :
    decP2D f ≠ .unknownP a b c d k := by
  simp only [List.mem_cons, List.not_mem_nil, or_false] at hkey
  rcases hkey with hkey | hkey | hkey | hkey | hkey | hkey
  · rw [decP2D_up hkey]; nofun
  · rw [decP2D_down hkey]; nofun
  · rw [decP2D_noKey hkey]; nofun
  · rw [decP2D_presetOne hkey]; nofun
  · rw [decP2D_presetTwo hkey]; nofun
  · rw [decP2D_presetThree hkey]; nofun

/-- Settles O12: the frame carries the five bytes verbatim, its key byte among them, and that byte selects the kind. -/
theorem unknownsWithKnownKeysAlias : Obligations.UnknownsWithKnownKeysAlias :=
  ⟨fun a b c d k hkey => ⟨verbatimFrame a b c d k, rfl, ⟨rfl, rfl, rfl, rfl, rfl⟩, decP2D_ne_unknown hkey⟩,
    fun a c d k => ⟨verbatimFrame a 0x00 c d k, rfl, ⟨rfl, rfl, rfl, rfl, rfl⟩, _, decD2P_height rfl⟩⟩

/-! ### From a message to its frame and back (R160) -/

/-- A preset field read back from the frame that was written. -/
theorem presetField_roundTrip {h : Mm} {key : Byte} {f : Frame} (he : encPreset key h = some f) :
    f.b2 = key ∧ heightOfField Config.offsetPreset f.b4 f.b3 = h := by
  obtain ⟨hr, rfl⟩ := (encPreset_some_iff key h f).1 he
  exact ⟨rfl, heightOfField_field (offset := 0) (Nat.zero_le _) hr⟩

/-- A `Height` field read back from the frame that was written. -/
theorem deskField_roundTrip {h : Mm} {f : Frame} (he : encHeight h = some f) :
    f.b2 = 0x00 ∧ heightOfField Config.offsetDesk f.b3 f.b4 = h := by
  obtain ⟨hlo, hhi, rfl⟩ := (encHeight_some_iff h f).1 he
  exact ⟨rfl, heightOfField_field (offset := 650) hlo (by omega)⟩

theorem decP2D_encP2D {m : P2D} {f : Frame}
    (hkey : ∀ a b c d k : Byte, m = .unknownP a b c d k → b ∉ [0x01, 0x02, 0x03, 0x06, 0x07, 0x08])
    (he : encP2D m = some f) : decP2D f = m := by
  cases m with
  | up => cases he; exact decP2D_up rfl
  | down => cases he; exact decP2D_down rfl
  | noKey => cases he; exact decP2D_noKey rfl
  | presetOne h =>
    obtain ⟨hb, hh⟩ := presetField_roundTrip he
    rw [decP2D_presetOne hb, hh]
  | presetTwo h =>
    obtain ⟨hb, hh⟩ := presetField_roundTrip he
    rw [decP2D_presetTwo hb, hh]
  | presetThree h =>
    obtain ⟨hb, hh⟩ := presetField_roundTrip he
    rw [decP2D_presetThree hb, hh]
  | unknownP a b c d k => cases he; exact decP2D_unknown (hkey a b c d k rfl)

theorem decD2P_encD2P {m : D2P} {f : Frame} (hkey : ∀ a b c d k : Byte, m = .unknownD a b c d k → b ≠ 0x00)
    (he : encD2P m = some f) : decD2P f = m := by
  cases m with
  | height h =>
    obtain ⟨hb, hh⟩ := deskField_roundTrip he
    rw [decD2P_height hb, hh]
  | unknownD a b c d k => cases he; exact decD2P_unknown (hkey a b c d k rfl)

/-- Settles O9: a message in range has a frame, and the decoder reads the message back from it. -/
theorem messagesRoundTrip : Obligations.MessagesRoundTrip := by
  refine ⟨fun m hr hkey => ?_, fun m hr hkey => ?_⟩
  · obtain ⟨f, he⟩ := encP2D_of_inRange hr
    exact ⟨f, he, decP2D_encP2D hkey he⟩
  · obtain ⟨f, he⟩ := encD2P_of_inRange hr
    exact ⟨f, he, decD2P_encD2P hkey he⟩

/-! ### From an instruction to its frame and back (R150, R161) -/

theorem decodeBytes_toList (L : Link) (f : Frame) : decodeBytes L f.toList = decodeFrame L f := rfl

theorem panelKeyKnown_iff (key : Byte) :
    panelKeyKnown key = true ↔ key ∈ [0x01, 0x02, 0x03, 0x06, 0x07, 0x08] := by
  simp [panelKeyKnown, or_assoc]

theorem panelKey_unassigned {a b c d k : Byte} (hw : (P2D.unknownP a b c d k).instr.wellFormed = true) :
    b ∉ [0x01, 0x02, 0x03, 0x06, 0x07, 0x08] := by
  simp only [P2D.instr, Instr.wellFormed, Bool.and_eq_true, Bool.not_eq_true'] at hw
  rw [← panelKeyKnown_iff, hw.1]
  exact Bool.false_ne_true

theorem deskKey_unassigned {a b c d k : Byte} (hw : (D2P.unknownD a b c d k).instr.wellFormed = true) : b ≠ 0x00 := by
  simp only [D2P.instr, Instr.wellFormed, deskKeyKnown, Bool.and_eq_true, Bool.not_eq_true', beq_eq_false_iff_ne] at hw
  exact hw.1

/-- A link's decoder reads a valid frame as the instruction it carries, from the frame and from its bytes in wire order. -/
theorem decoders_of_valid {L : Link} {f : Frame} {i : Instr} (hv : frameValid f = true) (hi : instrOfFrame L f = i) :
    decodeFrame L f = .ok i ∧ decodeBytes L f.toList = .ok i := by
  rw [decodeBytes_toList, and_self, decodeFrame_ok_iff]
  exact ⟨hv, hi⟩

/-- Settles O10: an instruction is the reception of a message (`instr_cases`), which its frame gives back. -/
theorem instructionsRoundTrip : Obligations.InstructionsRoundTrip := by
  intro i hw
  obtain ⟨m, rfl⟩ | ⟨m, rfl⟩ := instr_cases i
  · obtain ⟨f, he⟩ := encD2P_of_wellFormed hw
    have hv := encD2P_valid hw he
    have hdec : decD2P f = m := decD2P_encD2P (fun a b c d k hm => deskKey_unassigned (hm ▸ hw)) he
    rw [encode_d2p, instr_link_d2p]
    exact ⟨f, he, hv, decoders_of_valid hv (by rw [instrOfFrame_desk, hdec])⟩
  · obtain ⟨f, he⟩ := encP2D_of_inRange (P2D.inRange_of_wellFormed hw)
    have hv := encP2D_valid hw he
    have hdec : decP2D f = m := decP2D_encP2D (fun a b c d k hm => panelKey_unassigned (hm ▸ hw)) he
    rw [encode_p2d, instr_link_p2d]
    exact ⟨f, he, hv, decoders_of_valid hv (by rw [instrOfFrame_panel, hdec])⟩

/-! ### From a frame to its message and back (R162) -/

theorem encP2D_decP2D_key {f : Frame} (hkey : f.b2 ∈ [0x01, 0x02, 0x03]) :
    encP2D (decP2D f) = some (knownFrame f.b2 0x00 0x00) := by
  simp only [List.mem_cons, List.not_mem_nil, or_false] at hkey
  rcases hkey with hkey | hkey | hkey
  · rw [decP2D_up hkey, hkey]; rfl
  · rw [decP2D_down hkey, hkey]; rfl
  · rw [decP2D_noKey hkey, hkey]; rfl

theorem encP2D_decP2D_preset {f : Frame} (hkey : f.b2 ∈ [0x06, 0x07, 0x08]) :
    encP2D (decP2D f) = some (knownFrame f.b2 f.b3 f.b4) := by
  simp only [List.mem_cons, List.not_mem_nil, or_false] at hkey
  rcases hkey with hkey | hkey | hkey
  · rw [decP2D_presetOne hkey, encP2D, encPreset_heightOfField, hkey]
  · rw [decP2D_presetTwo hkey, encP2D, encPreset_heightOfField, hkey]
  · rw [decP2D_presetThree hkey, encP2D, encPreset_heightOfField, hkey]

theorem encP2D_decP2D_unknown {f : Frame} (hv : frameValid f = true)
    (hkey : f.b2 ∉ [0x01, 0x02, 0x03, 0x06, 0x07, 0x08]) : encP2D (decP2D f) = some f := by
  rw [decP2D_unknown hkey, encP2D, verbatimFrame_of_valid hv]

theorem encD2P_decD2P_height {f : Frame} (hkey : f.b2 = 0x00) :
    encD2P (decD2P f) = some (knownFrame f.b2 f.b3 f.b4) := by
  rw [decD2P_height hkey, encD2P, encHeight_heightOfField, hkey]

theorem encD2P_decD2P_unknown {f : Frame} (hv : frameValid f = true) (hkey : f.b2 ≠ 0x00) :
    encD2P (decD2P f) = some f := by
  rw [decD2P_unknown hkey, encD2P, verbatimFrame_of_valid hv]

theorem encP2D_decP2D_iff {f : Frame} (hv : frameValid f = true) :
    encP2D (decP2D f) = some f ↔
      f.b2 ∉ [0x01, 0x02, 0x03, 0x06, 0x07, 0x08] ∨
        (f.b1 = 0x01 ∧ (f.b2 ∈ [0x06, 0x07, 0x08] ∨ (f.b3 = 0x00 ∧ f.b4 = 0x00))) := by
  have hknown : f.b2 ∈ [0x01, 0x02, 0x03, 0x06, 0x07, 0x08] ↔
      f.b2 ∈ [0x01, 0x02, 0x03] ∨ f.b2 ∈ [0x06, 0x07, 0x08] :=
    List.mem_append (s := [0x01, 0x02, 0x03])
  by_cases hpreset : f.b2 ∈ [0x06, 0x07, 0x08]
  · rw [encP2D_decP2D_preset hpreset, Option.some_inj, knownFrame_eq_iff hv]
    simp only [hknown, hpreset, or_true, true_or, not_true_eq_false, false_or, and_true]
  by_cases hkey : f.b2 ∈ [0x01, 0x02, 0x03]
  · rw [encP2D_decP2D_key hkey, Option.some_inj, knownFrame_eq_iff hv]
    simp only [hknown, hpreset, hkey, or_false, false_or, not_true_eq_false, true_and]
  · have hunknown := fun h => (hknown.1 h).elim hkey hpreset
    exact iff_of_true (encP2D_decP2D_unknown hv hunknown) (.inl hunknown)

theorem encD2P_decD2P_iff {f : Frame} (hv : frameValid f = true) :
    encD2P (decD2P f) = some f ↔ f.b2 ≠ 0x00 ∨ f.b1 = 0x01 := by
  by_cases hkey : f.b2 = 0x00
  · rw [encD2P_decD2P_height hkey, Option.some_inj, knownFrame_eq_iff hv]
    simp only [hkey, ne_eq, not_true_eq_false, false_or, and_true]
  · exact iff_of_true (encD2P_decD2P_unknown hv hkey) (.inl hkey)

/-- Settles O11: by what the encoder makes of a decoded frame, whose bytes 1 to 4 then have to be the frame's own. -/
theorem framesRoundTripExactly : Obligations.FramesRoundTripExactly :=
  ⟨fun _ hv => encP2D_decP2D_iff hv, fun _ hv => encD2P_decD2P_iff hv⟩

end Sys2Proof

namespace Sys2Proof.Machine

/-! ### Where an encoder is asked, and what a refusal does (R140) -/

theorem panelWriterStep_of_queued {s : State} {m : D2P} {rest : List D2P} (hr : s.run.panelWriter = .running)
    (hs : s.shutdown = false) (hi : s.pwState = .idle) (hq : s.d2pQ = m :: rest) :
    panelWriterStep s = panelStart m rest s := by
  simp [panelWriterStep, State.isRunning, PerAgent.get, hr, hs, hi, hq]

theorem panelStart_refuses {m : D2P} (rest : List D2P) (s : State) (he : encD2P m = none) :
    panelStart m rest s = .refused .encRangeError := by
  rw [panelStart, he]

/-- Settles O6: the encoders' ranges, and the one message the panel writer cannot start with. -/
theorem encodersRefuseExactlyOutOfRange : Obligations.EncodersRefuseExactlyOutOfRange :=
  ⟨encHeight_none_iff, encPreset_none_iff 0x06, encPreset_none_iff 0x07, encPreset_none_iff 0x08,
    fun _ rest s hr hs hi hq he => (panelWriterStep_of_queued hr hs hi hq).trans (panelStart_refuses rest s he)⟩

/-! ### The step answers (R140, R233) -/

/-- A step rule answers a next state. -/
def Answers (o : Host.Outcome State Fault Refusal) : Prop := ∃ t : State, o = .next t

theorem answers_next (t : State) : Answers (.next t) := ⟨t, rfl⟩

theorem answers_ite {c : Prop} [Decidable c] {o p : Host.Outcome State Fault Refusal} (ho : c → Answers o)
    (hp : ¬ c → Answers p) : Answers (if c then o else p) := by
  split
  · next hc => exact ho hc
  · next hc => exact hp hc

theorem answers_ite_next (c : Prop) [Decidable c] (s t : State) : Answers (if c then .next s else .next t) :=
  answers_ite (fun _ => answers_next s) (fun _ => answers_next t)

theorem exec_answers (i : Instr) (s : State) : Answers (exec i s) := by
  obtain ⟨m, rfl⟩ | ⟨m, rfl⟩ := instr_cases i
  · rw [exec_d2p]
    exact answers_ite_next _ _ _
  · rw [exec_p2d]
    exact answers_ite_next _ _ _

theorem rxByte_answers (L : Link) (b : Byte) (s : State) : Answers (rxByte L b s) := by
  refine answers_ite (fun _ => answers_ite (fun _ => ?seeking) (fun _ => answers_ite (fun _ => ?filling) (fun _ => ?last)))
    (fun _ => ?stopped)
  case seeking => exact answers_ite_next _ _ _
  case filling | stopped => exact answers_next _
  case last =>
    cases decodeFrame L (candidate (s.link L) b) with
    | ok i => exact exec_answers i s
    | error _ => exact answers_next _

theorem panelStart_answers {m : D2P} (rest : List D2P) (s : State) (hw : m.instr.wellFormed = true) :
    Answers (panelStart m rest s) := by
  obtain ⟨f, hf⟩ := encD2P_of_wellFormed hw
  rw [panelStart, hf]
  exact answers_next _

/-- What the control loop decides to send is a message that has a frame (R233). -/
theorem evaluate_answers {s : State} (hkey : ∀ m, s.currentPanelKey = some m → m.instr.wellFormed = true) :
    Answers (evaluate s) := by
  unfold evaluate
  cases hc : nextCommand s.currentPanelKey s.targetHeight s.currentHeight with
  | none => exact answers_next _
  | some c =>
    obtain ⟨hw, -⟩ := nextCommand_legal hkey hc
    obtain ⟨f, hf⟩ := encP2D_of_inRange (P2D.inRange_of_wellFormed hw)
    dsimp only
    rw [hf]
    exact answers_next _

theorem panelWriterStep_answers {s : State} (h : s.Inv) : Answers (panelWriterStep s) := by
  refine answers_ite (fun _ => answers_next _) (fun _ => answers_ite (fun _ => answers_next _) (fun _ => ?_))
  cases s.pwState with
  | writing =>
    exact answers_ite (fun _ => answers_next _) (fun _ => answers_ite_next _ _ _)
  | idle =>
    cases hq : s.d2pQ with
    | cons m rest => exact panelStart_answers rest s (h.d2pQDecoded m (hq ▸ List.mem_cons_self))
    | nil => exact answers_ite_next _ _ _

theorem controlLoopStep_answers {s : State} (h : s.Inv) : Answers (controlLoopStep s) := by
  refine answers_ite (fun _ => answers_next _) (fun _ => answers_ite (fun _ => answers_next _) (fun _ => ?_))
  cases s.clState with
  | waiting =>
    exact answers_ite (fun _ => evaluate_answers h.keyDecoded)
      (fun _ => answers_ite (fun _ => evaluate_answers h.keyDecoded) (fun _ => answers_next _))
  | writing =>
    exact answers_ite (fun _ => answers_next _) (fun _ => answers_ite_next _ _ _)

theorem agentStep_answers (A : Agent) {s : State} (h : s.Inv) : Answers (agentStep A s) := by
  cases A with
  | panelWriter => exact panelWriterStep_answers h
  | controlLoop => exact controlLoopStep_answers h
  | deskReader | panelReader | debouncer => exact answers_next _

theorem act_answers (e : Event) {s : State} (h : s.Inv) : Answers (act e s) := by
  cases e with
  | rxByte L b => exact rxByte_answers L b s
  | agentStep A => exact agentStep_answers A h
  | _ => exact answers_next _

/-- Settles O56: the only two rules that encode, the panel writer's start and the control loop's evaluation, are given
messages of the invariant, which have a frame; every other rule answers in any state. -/
theorem stepNeverRefuses : Obligations.StepNeverRefuses := fun s h => act_answers s.nextEvent h.eventTaken

end Sys2Proof.Machine
end

section
/-! Proofs of the statements of 41_synchronizer.md: the five rules of `RX_BYTE` and `RX_TIMEOUT` (R171 to R176, R181), what
a received frame does (R170, R180), whole candidates and noise from Seeking (R177, R178, R184), and that every received byte
is accounted for (R183). -/
namespace Sys2Proof.Machine

/-! ### The account of received bytes (R183) -/

/-- R183's sum over the registers of one link. -/
def LinkState.accounted (l : LinkState) : Count :=
  7 * l.frameCount + l.droppedByteCount + l.dropAcc + BitVec.ofNat 64 l.pos.val

theorem accounted_eq_link (L : Link) (s : State) : s.accounted L = (s.link L).accounted := rfl

theorem accounted_reset (L : Link) : State.reset.accounted L = 0 := by cases L <;> rfl

theorem acceptStart_accounted {l : LinkState} (hp : l.pos = 0) : l.acceptStart.accounted = l.accounted + 1 := by
  simp [LinkState.accounted, LinkState.acceptStart, hp]

theorem discardOne_accounted (l : LinkState) : l.discardOne.accounted = l.accounted + 1 := by
  simp only [LinkState.accounted, LinkState.discardOne]
  ring

/-- Filling moves the position on by one. -/
theorem fill_pos_val {l : LinkState} (hp : l.pos < 6) (b : Byte) : (l.fill b).pos.val = l.pos.val + 1 :=
  Fin.val_add_one_of_lt hp

theorem fill_accounted {l : LinkState} (hp : l.pos < 6) (b : Byte) : (l.fill b).accounted = l.accounted + 1 := by
  rw [LinkState.accounted, fill_pos_val hp, BitVec.ofNat_add, ← add_assoc]
  rfl

theorem discardSeven_accounted {l : LinkState} (hp : l.pos = 6) : l.discardSeven.accounted = l.accounted + 1 := by
  simp [LinkState.accounted, LinkState.discardSeven, hp, add_assoc]

theorem emitted_accounted {l : LinkState} (hp : l.pos = 6) : l.emitted.accounted = l.accounted + 1 := by
  have hpos : BitVec.ofNat 64 l.pos.val = 6 := by rw [hp]; rfl
  have hzero : l.emitted.accounted = 7 * (l.frameCount + 1) + (l.droppedByteCount + l.dropAcc) := by
    simp [LinkState.accounted, LinkState.emitted, LinkState.report]
  rw [hzero, LinkState.accounted, hpos]
  ring

/-- A report only moves drops from the accumulator to the counter (R181). -/
theorem report_accounted (l : LinkState) : l.report.accounted = l.accounted := by
  simp [LinkState.accounted, LinkState.report, add_assoc]

theorem isRxByteOn_iff (L : Link) (e : Event) : isRxByteOn L e = true ↔ ∃ b, e = .rxByte L b := by
  cases e with
  | rxByte M b => simp [isRxByteOn]
  | _ => simp [isRxByteOn]

/-- Whichever of R171 to R175 a Running reader's byte meets, one byte more is accounted for. -/
theorem Did.accounted_of_rxByte {L : Link} {b : Byte} {s t : State} (hd : Did (.rxByte L b) s t)
    (hr : s.run.get (readerOf L) = .running) : t.accounted L = s.accounted L + 1 := by
  cases hd with
  | nothing _ _ hn => exact absurd hr hn
  | acceptStart _ _ _ hp => rw [accounted_eq_link, link_setLink_same, acceptStart_accounted hp, ← accounted_eq_link]
  | discardOne => rw [accounted_eq_link, link_setLink_same, discardOne_accounted, ← accounted_eq_link]
  | fill _ _ _ _ _ hp => rw [accounted_eq_link, link_setLink_same, fill_accounted hp, ← accounted_eq_link]
  | discardSeven _ _ _ _ hp =>
    rw [accounted_eq_link, link_setLink_same, discardSeven_accounted hp, ← accounted_eq_link]
  | relayed _ _ _ _ hp | relayFault _ _ _ _ hp | queued _ _ _ _ hp | queueFault _ _ _ _ hp =>
    exact emitted_accounted hp
  | hostRead _ _ _ he => simp at he

/-- No other event but `RESET` changes the account: the only one that writes the link's registers is the report of the
accumulated drops. -/
theorem accounted_of_not_rxByte {L : Link} {e : Event} {s t : State} (he : e ≠ .reset) (hrx : isRxByteOn L e = false)
    (hact : act e s = .next t) : t.accounted L = s.accounted L := by
  rcases (act_did hact).link_kept_or he L with hlink | ⟨b, rfl⟩ | rfl
  · rw [accounted_eq_link, hlink, ← accounted_eq_link]
  · rw [(isRxByteOn_iff L _).2 ⟨b, rfl⟩] at hrx
    cases hrx
  · cases hact
    rcases rxTimeout_cases L s with ⟨-, h⟩ | ⟨-, h⟩ <;> rw [h]
    rw [accounted_eq_link, link_setLink_same, report_accounted, ← accounted_eq_link]

/-- One event at a time: the account grows by the event if it is an `RX_BYTE` of the link. -/
theorem accounted_step {L : Link} {e : Event} {s t : State} (he : e ≠ .reset) (hact : act e s = .next t)
    (hr : s.run.get (readerOf L) = .running) :
    t.accounted L = s.accounted L + BitVec.ofNat 64 ([e].countP (isRxByteOn L)) := by
  cases hrx : isRxByteOn L e with
  | false => simp [accounted_of_not_rxByte he hrx hact, hrx]
  | true =>
    obtain ⟨b, rfl⟩ := (isRxByteOn_iff L e).1 hrx
    rw [(act_did hact).accounted_of_rxByte hr, List.countP_singleton, if_pos hrx]
    rfl

/-- An agent that is Running after a run without `RESET` was Running before it (R43). -/
theorem running_of_runEvents {A : Agent} {events : List Event} {s t : State} (he : Event.reset ∉ events)
    (hrun : runEvents events s = .next t) (ht : t.run.get A = .running) : s.run.get A = .running := by
  induction events generalizing s with
  | nil =>
    cases hrun
    exact ht
  | cons e rest ih =>
    obtain ⟨u, hact, hrest⟩ := runEvents_cons_next hrun
    rw [List.mem_cons, not_or] at he
    have hu : u.run.get A = .running := ih he.2 hrest
    by_contra hs
    exact hs (((act_did hact).stopped_kept (Ne.symm he.1) hs).1 ▸ hu)

theorem accounted_runEvents {L : Link} {events : List Event} {s t : State} (he : Event.reset ∉ events)
    (hrun : runEvents events s = .next t) (ht : t.run.get (readerOf L) = .running) :
    t.accounted L = s.accounted L + BitVec.ofNat 64 (events.countP (isRxByteOn L)) := by
  induction events generalizing s with
  | nil =>
    cases hrun
    simp
  | cons e rest ih =>
    have hs := running_of_runEvents he hrun ht
    obtain ⟨u, hact, hrest⟩ := runEvents_cons_next hrun
    rw [List.mem_cons, not_or] at he
    have hcount : (e :: rest).countP (isRxByteOn L) = [e].countP (isRxByteOn L) + rest.countP (isRxByteOn L) :=
      List.countP_append (l₁ := [e])
    rw [ih he.2 hrest, accounted_step (Ne.symm he.1) hact hs, hcount, BitVec.ofNat_add, add_assoc]

/-- Settles O31: the account grows event by event, and reset's is 0. -/
theorem bytesAreConserved : Obligations.BytesAreConserved := by
  intro L events s t he hrun ht
  have haccount := accounted_runEvents he hrun ht
  refine ⟨haccount, ?_⟩
  rintro rfl
  rw [haccount, accounted_reset, zero_add]

/-! ### The rules of `RX_BYTE` (R171 to R175) and of `RX_TIMEOUT` (R176, R181), for a Running reader -/

section Rules
variable {L : Link} {b : Byte} {s : State}

theorem rxByte_start (hr : s.run.get (readerOf L) = .running) (hp : (s.link L).pos = 0) (hb : b = Config.startByte) :
    rxByte L b s = .next (s.setLink L (s.link L).acceptStart) := by
  simp [rxByte, (isRunning_iff _ _).2 hr, hp, hb]

theorem rxByte_noise (hr : s.run.get (readerOf L) = .running) (hp : (s.link L).pos = 0) (hb : b ≠ Config.startByte) :
    rxByte L b s = .next (s.setLink L (s.link L).discardOne) := by
  simp [rxByte, (isRunning_iff _ _).2 hr, hp, hb]

theorem rxByte_fill (hr : s.run.get (readerOf L) = .running) (hp : (s.link L).pos ≠ 0) (hp' : (s.link L).pos < 6) :
    rxByte L b s = .next (s.setLink L ((s.link L).fill b)) := by
  simp [rxByte, (isRunning_iff _ _).2 hr, hp, hp']

theorem rxByte_corrupt (hr : s.run.get (readerOf L) = .running) (hp : (s.link L).pos = 6)
    (hv : frameValid (candidate (s.link L) b) = false) :
    rxByte L b s = .next (s.setLink L (s.link L).discardSeven) := by
  obtain ⟨e, hd⟩ := (decodeFrame_error_iff L _).2 hv
  simp [rxByte, (isRunning_iff _ _).2 hr, hp, hd]

end Rules

/-- Settles O17: the next event is the 7th byte of the candidate. -/
theorem stepRunsTheDecodedInstruction : Obligations.StepRunsTheDecodedInstruction := by
  intro L b rest i s hpending hr hp hd
  rw [step_of_pending_cons hpending]
  exact rxByte_seventh (s := s.withPending rest) hr (by simpa using hp)
    (by simpa [candidate] using hd)

/-- Settles O23: one clause for each of the three rules. -/
theorem seekingAndFilling : Obligations.SeekingAndFilling := by
  intro L b s hr
  refine ⟨fun hp hb => rxByte_start hr hp hb, fun hp hb => rxByte_noise hr hp hb, ?_⟩
  rintro p rfl hlo hhi
  have hpos : (s.link L).pos < 6 := by omega
  refine ⟨bufWrite (s.link L).buf (s.link L).pos b, (s.link L).pos + 1, rxByte_fill hr (by omega) hpos,
    fill_pos_val hpos b, ?_, fun j hj => ?_⟩
  · rw [bufRead_bufWrite, if_pos rfl]
  · rw [bufRead_bufWrite, if_neg hj]

/-- Settles O24. -/
theorem corruptCandidateIsDiscarded : Obligations.CorruptCandidateIsDiscarded :=
  fun _ _ _ hr hp hv => rxByte_corrupt hr hp hv

/-- Settles O25: of the two things `RX_TIMEOUT` can do, a Running reader reports. -/
theorem timeoutReportsDrops : Obligations.TimeoutReportsDrops := by
  intro L s hr
  rcases rxTimeout_cases L s with ⟨hn, -⟩ | ⟨-, h⟩
  · exact absurd hr hn
  · exact congrArg _ h

/-! ### The reception of a frame (R170, R174, R180, R200, R285) -/

theorem receiveD2P_of_stopped {s : State} (m : D2P) (hr : s.run.deskReader ≠ .running) : receiveD2P m s = .next s := by
  simp [receiveD2P, State.isRunning, PerAgent.get, hr]

theorem receiveP2D_of_stopped {s : State} (m : P2D) (hr : s.run.panelReader ≠ .running) : receiveP2D m s = .next s := by
  simp [receiveP2D, State.isRunning, PerAgent.get, hr]

/-- A delivery to a Running panel writer (R200). -/
theorem receiveD2P_relayed {s : State} (m : D2P) (hr : s.run.deskReader = .running) (hw : s.run.panelWriter = .running) :
    receiveD2P m s = .next { s with desk := s.desk.emitted, currentHeight := heightAfter m s.currentHeight,
                                    d2pQ := s.d2pQ ++ [m] } := by
  obtain ⟨t, ht⟩ := exec_d2p m s ▸ exec_answers m.instr s
  rcases receiveD2P_cases ht with ⟨hn, -⟩ | ⟨-, -, rfl⟩ | ⟨-, hn, -⟩
  · exact absurd hr hn
  · exact ht
  · exact absurd hw hn

/-- A delivery to a Running debouncer (R180). -/
theorem receiveP2D_queued {s : State} (m : P2D) (hr : s.run.panelReader = .running) (hd : s.run.debouncer = .running) :
    receiveP2D m s = .next { s with panel := s.panel.emitted, panelQ := s.panelQ ++ [m] } := by
  obtain ⟨t, ht⟩ := exec_p2d m s ▸ exec_answers m.instr s
  rcases receiveP2D_cases ht with ⟨hn, -⟩ | ⟨-, -, rfl⟩ | ⟨-, hn, -⟩
  · exact absurd hr hn
  · exact ht
  · exact absurd hd hn

/-- The send-side ChannelError: the frame is counted and its message lost (R285). -/
theorem receiveP2D_queueFault {s : State} (m : P2D) (hr : s.run.panelReader = .running)
    (hd : s.run.debouncer ≠ .running) :
    receiveP2D m s = .next { s with panel := s.panel.emitted, run := { s.run with panelReader := .faulted },
                                    cause := { s.cause with panelReader := .channelSend } } := by
  obtain ⟨t, ht⟩ := exec_p2d m s ▸ exec_answers m.instr s
  rcases receiveP2D_cases ht with ⟨hn, -⟩ | ⟨-, hy, -⟩ | ⟨-, -, rfl⟩
  · exact absurd hr hn
  · exact absurd hy hd
  · exact ht

/-- Settles O21: the seven kinds are the receptions of the seven panel messages. -/
theorem panelFramesAreQueued : Obligations.PanelFramesAreQueued := by
  rintro m i s l hkind rfl
  have hi : i = m.instr := by
    rcases hkind with ⟨rfl, rfl⟩ | ⟨rfl, rfl⟩ | ⟨rfl, rfl⟩ | ⟨_, rfl, rfl⟩ | ⟨_, rfl, rfl⟩ | ⟨_, rfl, rfl⟩ |
      ⟨_, _, _, _, _, rfl, rfl⟩ <;> rfl
  rw [hi, exec_p2d]
  exact ⟨receiveP2D_queued m, receiveP2D_queueFault m⟩

/-- Settles O22: every kind is the reception of a message on its link. -/
theorem stoppedReadersIgnoreFrames : Obligations.StoppedReadersIgnoreFrames := by
  intro i s hr
  obtain ⟨m, rfl⟩ | ⟨m, rfl⟩ := instr_cases i
  · rw [instr_link_d2p] at hr
    rw [exec_d2p]
    exact receiveD2P_of_stopped m hr
  · rw [instr_link_p2d] at hr
    rw [exec_p2d]
    exact receiveP2D_of_stopped m hr

/-! ### Runs of bytes from one link (R178) -/

theorem runEvents_rxByte_cons {L : Link} {b : Byte} {s u : State} (h : rxByte L b s = .next u) (rest : List Event) :
    runEvents (.rxByte L b :: rest) s = runEvents rest u := by
  rw [runEvents, act, h]

theorem runEvents_singleton (e : Event) (s : State) : runEvents [e] s = act e s := by
  rw [runEvents]
  cases act e s <;> rfl

/-- Bytes that the open candidate has room for go into the buffer one after the other (R173). -/
theorem runEvents_fill (L : Link) (bytes : List Byte) (rest : List Event) {s : State}
    (hr : s.run.get (readerOf L) = .running) (hp : (s.link L).pos ≠ 0) (hroom : (s.link L).pos.val + bytes.length ≤ 6) :
    runEvents (bytes.map (Event.rxByte L) ++ rest) s
      = runEvents rest (s.setLink L (bytes.foldl LinkState.fill (s.link L))) := by
  induction bytes generalizing s with
  | nil => simp
  | cons b bytes ih =>
    rw [List.length_cons] at hroom
    have hlt : (s.link L).pos < 6 := by omega
    have hpos := fill_pos_val hlt b
    rw [List.map_cons, List.cons_append, runEvents_rxByte_cons (rxByte_fill hr hp hlt), ih (by simpa using hr)]
    · rw [link_setLink_same, setLink_setLink, List.foldl_cons]
    · rw [link_setLink_same]
      omega
    · rw [link_setLink_same, hpos]
      omega

/-- The link's registers with the first six bytes of `f` accepted. -/
def LinkState.holding (f : Frame) (l : LinkState) : LinkState := { l with buf := { f with b6 := l.buf.b6 }, pos := 6 }

@[simp] theorem holding_pos (f : Frame) (l : LinkState) : (l.holding f).pos = 6 := rfl

@[simp] theorem candidate_holding (f : Frame) (l : LinkState) : candidate (l.holding f) f.b6 = f := rfl

theorem acceptStart_fill_five {f : Frame} (hb : f.b0 = Config.startByte) (l : LinkState) :
    [f.b1, f.b2, f.b3, f.b4, f.b5].foldl LinkState.fill l.acceptStart = l.holding f := by
  simp only [LinkState.holding, hb]
  rfl

/-- From Seeking, the seven bytes of a frame that begins with START come down to the arrival of the 7th (R171, R173). -/
theorem runEvents_readEvents_of_start {L : Link} {f : Frame} {s : State} (hr : s.run.get (readerOf L) = .running)
    (hp : (s.link L).pos = 0) (hb : f.b0 = Config.startByte) :
    runEvents (readEvents L f.toList) s = rxByte L f.b6 (s.setLink L ((s.link L).holding f)) := by
  have hevents : readEvents L f.toList =
      .rxByte L f.b0 :: ([f.b1, f.b2, f.b3, f.b4, f.b5].map (Event.rxByte L) ++ [.rxByte L f.b6]) := rfl
  rw [hevents, runEvents_rxByte_cons (rxByte_start hr hp hb), runEvents_fill, link_setLink_same, setLink_setLink,
    acceptStart_fill_five hb, runEvents_singleton]
  · rfl
  · simpa using hr
  · rw [link_setLink_same]
    exact (by decide : (1 : Fin 7) ≠ 0)
  · rw [link_setLink_same]
    exact le_refl 6

/-- Settles O27: the 7th byte runs the decoded instruction. -/
theorem wholeFrameIsReceived : Obligations.WholeFrameIsReceived := by
  intro L f i s hr hp hd
  have hb := ((frameValid_iff f).1 ((decodeFrame_ok_iff L f i).1 hd).1).1
  rw [runEvents_readEvents_of_start hr hp hb]
  exact rxByte_seventh (by simpa using hr) (by simp) (by simpa using hd)

/-- A rejected candidate leaves a Seeking link Seeking, its six bytes in the buffer (R175). -/
theorem discardSeven_holding {l : LinkState} (hp : l.pos = 0) (f : Frame) :
    (l.holding f).discardSeven = { l with buf := { f with b6 := l.buf.b6 }, dropAcc := l.dropAcc + 7 } := by
  rw [LinkState.discardSeven, LinkState.holding, hp]

/-- Settles O28: the 7th byte completes a corrupt candidate. -/
theorem rejectedCandidateIsGone : Obligations.RejectedCandidateIsGone := by
  intro L f s hr hp hb hv
  rw [runEvents_readEvents_of_start hr hp hb, rxByte_corrupt (by simpa using hr) (by simp) (by simpa using hv),
    link_setLink_same, setLink_setLink, discardSeven_holding hp]

/-- Settles O29, by induction on the noise: each byte is one drop and leaves the link Seeking. -/
theorem noiseIsDiscardedByteByByte : Obligations.NoiseIsDiscardedByteByByte := by
  intro L noise
  induction noise with
  | nil =>
    intro s _ _ _
    rw [List.length_nil, BitVec.add_zero]
    exact congrArg Host.Outcome.next (setLink_link L s).symm
  | cons b noise ih =>
    intro s hr hp hnoise
    obtain ⟨hb, hrest⟩ := List.forall_mem_cons.1 hnoise
    have hp' : ((s.setLink L (s.link L).discardOne).link L).pos = 0 := by
      rw [link_setLink_same]
      exact hp
    rw [List.map_cons, runEvents_rxByte_cons (rxByte_noise hr hp hb), ih _ (by simpa using hr) hp' hrest,
      link_setLink_same, setLink_setLink, List.length_cons, Nat.add_comm noise.length, BitVec.ofNat_add, ← add_assoc]
    rfl

/-! ### The synchronizer test (R184) -/

/-- The agent that takes from the queue link `L`'s reader pushes to (R180, R200). -/
def consumerOf (L : Link) : Agent :=
  match L with
  | .desk => .panelWriter
  | .panel => .debouncer

/-- The reader of link `L` has emitted the frame `f`, reporting the drops before it, and its message is queued; nobody has
stopped. -/
structure Delivered (L : Link) (f : Frame) (s t : State) : Prop where
  pos : (t.link L).pos = 0
  dropAcc : (t.link L).dropAcc = 0
  frameCount : (t.link L).frameCount = (s.link L).frameCount + 1
  droppedByteCount : (t.link L).droppedByteCount = (s.link L).droppedByteCount + (s.link L).dropAcc
  run : t.run = s.run
  d2pQ : L = .desk → t.d2pQ = s.d2pQ ++ [decD2P f]
  panelQ : L = .panel → t.panelQ = s.panelQ ++ [decP2D f]

theorem exec_delivers {L : Link} (f : Frame) {s : State} (hr : s.run.get (readerOf L) = .running)
    (hc : s.run.get (consumerOf L) = .running) : ∃ t, exec (instrOfFrame L f) s = .next t ∧ Delivered L f s t := by
  cases L with
  | desk =>
    rw [instrOfFrame_desk, exec_d2p]
    exact ⟨_, receiveD2P_relayed _ hr hc, rfl, rfl, rfl, rfl, rfl, fun _ => rfl, nofun⟩
  | panel =>
    rw [instrOfFrame_panel, exec_p2d]
    exact ⟨_, receiveP2D_queued _ hr hc, rfl, rfl, rfl, rfl, rfl, nofun, fun _ => rfl⟩

/-- From Seeking, the seven bytes of a valid frame deliver it. -/
theorem validFrame_delivered {L : Link} {f : Frame} {s : State} (hr : s.run.get (readerOf L) = .running)
    (hc : s.run.get (consumerOf L) = .running) (hp : (s.link L).pos = 0) (hv : frameValid f = true) :
    ∃ t, runEvents (readEvents L f.toList) s = .next t ∧ Delivered L f s t := by
  rw [wholeFrameIsReceived L f _ s hr hp (decodeFrame_of_valid L f hv)]
  obtain ⟨t, ht, hd⟩ := exec_delivers f (s := s.setLink L ((s.link L).holding f)) (by simpa using hr) (by simpa using hc)
  refine ⟨t, ht, hd.pos, hd.dropAcc, ?_, ?_, ?_, fun hL => ?_, fun hL => ?_⟩
  · rw [hd.frameCount, link_setLink_same]
    rfl
  · rw [hd.droppedByteCount, link_setLink_same]
    rfl
  · rw [hd.run, setLink_run]
  · rw [hd.d2pQ hL, setLink_d2pQ]
  · rw [hd.panelQ hL, setLink_panelQ]

/-- Settles O30: two deliveries with a rejected candidate between them. -/
theorem synchronizerTest : Obligations.SynchronizerTest := by
  intro L f g h s hr hwriter hdebouncer hp hzero hf hh hstart _ hsum
  have hc : s.run.get (consumerOf L) = .running := by
    cases L with
    | desk => exact hwriter rfl
    | panel => exact hdebouncer rfl
  have hg : frameValid g = false := Bool.eq_false_iff.2 fun hv => hsum ((frameValid_iff g).1 hv).2.2
  obtain ⟨s₁, hrun₁, hd₁⟩ := validFrame_delivered hr hc hp hf
  have hrun₂ := rejectedCandidateIsGone L g s₁ (hd₁.run ▸ hr) hd₁.pos hstart hg
  obtain ⟨s₃, hrun₃, hd₃⟩ := validFrame_delivered (L := L) (f := h)
    (s := s₁.setLink L { s₁.link L with buf := { g with b6 := (s₁.link L).buf.b6 }, dropAcc := (s₁.link L).dropAcc + 7 })
    (by simpa [hd₁.run] using hr) (by simpa [hd₁.run] using hc) (by simpa using hd₁.pos) hh
  refine ⟨s₁, _, s₃, hrun₁, hd₁.frameCount, ?_, hrun₂, ?_, ?_, ?_, hrun₃, hd₃.frameCount, ?_, hd₃.dropAcc,
    fun hL => ?_, fun hL => ?_⟩
  · rw [hd₁.droppedByteCount, hzero, add_zero]
  · rw [link_setLink_same]
  · rw [link_setLink_same]
  · rw [link_setLink_same, hd₁.dropAcc]
    rfl
  · rw [hd₃.droppedByteCount, link_setLink_same, hd₁.dropAcc]
    rfl
  · rw [hd₃.d2pQ hL, setLink_d2pQ, hd₁.d2pQ hL, List.append_assoc]
    rfl
  · rw [hd₃.panelQ hL, setLink_panelQ, hd₁.panelQ hL, List.append_assoc]
    rfl

end Sys2Proof.Machine
end

section
/-! Proofs of the statements of 42_relay_debouncer.md: the desk relay (R200), the steps of the panel writer (R201 to R203)
and of the debouncer (R205, R206, R210), and that a pending target keeps the control loop awake (R209, R241). -/
namespace Sys2Proof.Machine

/-! ### A pending target keeps the control loop awake (R209, R240, R241) -/

/-- The premise that no notification is pending fails. -/
theorem pursuitAwake_of_wake {s : State} (hk : s.wake = true) : s.PursuitAwake := fun _ _ h => by
  cases hk.symm.trans h

theorem pursuitAwake_of_noTarget {s : State} (ht : s.targetHeight = none) : s.PursuitAwake := fun h => absurd ht h

/-- Whatever a pursuit decides, its completion signals again: it is a movement, or it clears the target (R224 to R226). -/
theorem pursue_resignals_or_clears (t cur : Mm) :
    isMovement (pursue t cur).message = true ∨ (pursue t cur).clearsTarget = true := by
  rcases pursue_cases t cur with ⟨-, h⟩ | ⟨-, h⟩ | ⟨-, h⟩ <;> rw [h]
  · exact .inr rfl
  · exact .inl rfl
  · exact .inl rfl

/-- With no key held and a target pending, `next_command` decides the pursuit of that target (R227). -/
theorem nextCommand_of_noKey {target : Option Mm} (cur : Mm) (ht : target ≠ none) :
    ∃ t, nextCommand none target cur = some (pursue t cur) := by
  obtain ⟨t, rfl⟩ := Option.ne_none_iff_exists'.1 ht
  exact ⟨t, rfl⟩

/-- `next_command` returns `None` only when there is no target (R227). -/
theorem noTarget_of_nextCommand_none {key : Option P2D} {target : Option Mm} {cur : Mm}
    (hn : nextCommand key target cur = none) : target = none := by
  rcases nextCommand_cases key target cur with ⟨-, ht, -⟩ | ⟨k, -, -, hc⟩ | ⟨-, ht, -⟩ | ⟨t, -, -, hc⟩
  · exact ht
  · cases hn.symm.trans hc
  · exact ht
  · cases hn.symm.trans hc

/-- An evaluation that finds a target and no key starts the write of a pursuit (R233). -/
theorem pursuitAwake_evaluated {c : Command} {s : State} (f : Frame)
    (hc : nextCommand s.currentPanelKey s.targetHeight s.currentHeight = some c) :
    (evaluated c f { s with wake := false }).PursuitAwake := by
  intro (ht : s.targetHeight ≠ none) (hkey : s.currentPanelKey = none) _
  obtain ⟨t, hpursue⟩ := nextCommand_of_noKey s.currentHeight ht
  rw [hkey, hpursue] at hc
  cases hc
  exact ⟨rfl, pursue_resignals_or_clears t s.currentHeight⟩

/-- A completed write that leaves a target and no notification had neither flag set, so it was no pursuit's (R240). -/
theorem State.PursuitAwake.writeComplete {s : State} (h : s.PursuitAwake) : (writeComplete s).PursuitAwake := by
  intro ht hkey hk
  have hsome : (Machine.writeComplete s).targetHeight.isSome = true := Option.isSome_iff_ne_none.2 ht
  rw [writeComplete_wake, hsome, Bool.and_true] at hk
  simp only [Bool.or_eq_false_iff] at hk
  obtain ⟨⟨hwake, hclears⟩, hresignal⟩ := hk
  rw [writeComplete_targetHeight, hclears] at ht
  obtain ⟨-, hflag⟩ := h ht hkey hwake
  simp [hresignal, hclears] at hflag

/-- Every rule of the block keeps the loop awake: the rules that could leave a target pursued by nobody set `wake`, start the
pursuit, or complete a write. -/
theorem Did.pursuitAwake {e : Event} {s t : State} (hd : Did e s t) (h : s.PursuitAwake) : t.PursuitAwake := by
  cases hd with
  | reset => exact pursuitAwake_of_noTarget rfl
  | moveAccepted | taken | expired => exact pursuitAwake_of_wake rfl
  | evaluatedNone _ _ _ _ hn => exact pursuitAwake_of_noTarget (noTarget_of_nextCommand_none hn)
  | evaluatedSome c f _ _ _ _ hc => exact pursuitAwake_evaluated f hc
  | writeCompleted => exact h.writeComplete
  | _ => simpa [State.PursuitAwake] using h

theorem State.PursuitAwake.eventTaken {s : State} (h : s.PursuitAwake) : s.eventTaken.PursuitAwake := by
  simpa [State.PursuitAwake] using h

/-- Settles O58: reset has no target, taking the next event touches no register, and every rule keeps the loop awake. -/
theorem pursuitStaysAwake : Obligations.PursuitStaysAwake :=
  ⟨pursuitAwake_of_noTarget rfl, fun _ _ h hstep => (act_did hstep).pursuitAwake h.eventTaken⟩

/-! ### The desk relay (R200, R285) -/

/-- The send-side ChannelError: the height and the count are taken, and the message is lost (R200, R285). -/
theorem receiveD2P_relayFault {s : State} (m : D2P) (hr : s.run.deskReader = .running)
    (hw : s.run.panelWriter ≠ .running) :
    receiveD2P m s = .next { s with desk := s.desk.emitted, currentHeight := heightAfter m s.currentHeight,
                                    run := { s.run with deskReader := .faulted },
                                    cause := { s.cause with deskReader := .channelSend } } := by
  obtain ⟨t, ht⟩ := exec_d2p m s ▸ exec_answers m.instr s
  rcases receiveD2P_cases ht with ⟨hn, -⟩ | ⟨-, hy, -⟩ | ⟨-, -, rfl⟩
  · exact absurd hr hn
  · exact absurd hy hw
  · exact ht

/-- Settles O20: the two kinds are the receptions of the two desk messages, and only a `Height` has a height to leave. -/
theorem deskFramesAreRelayed : Obligations.DeskFramesAreRelayed := by
  rintro s l rfl
  exact ⟨fun hr hw => ⟨fun h => receiveD2P_relayed (.height h) hr hw,
      fun a b c d k => receiveD2P_relayed (.unknownD a b c d k) hr hw⟩,
    fun hr hw => ⟨fun h => receiveD2P_relayFault (.height h) hr hw,
      fun a b c d k => receiveD2P_relayFault (.unknownD a b c d k) hr hw⟩⟩

/-! ### The panel writer (R201 to R203, R284) -/

section PanelWriter
variable {s : State}

theorem panelStart_of_encoded {m : D2P} {f : Frame} (rest : List D2P) (he : encD2P m = some f) :
    panelStart m rest s
      = .next { s with d2pQ := rest, pwFrame := f, pwRemaining := Config.relayTimes, pwState := .writing } := by
  rw [panelStart, he]

theorem panelWriterStep_transmits (hr : s.run.panelWriter = .running) (hs : s.shutdown = false)
    (hw : s.pwState = .writing) (hg : s.pwGap = 0) (hn : s.pwRemaining ≠ 0) :
    panelWriterStep s = .next (panelTransmit s) := by
  simp [panelWriterStep, State.isRunning, PerAgent.get, hr, hs, hw, hg, show s.pwRemaining ≠ 0#8 from hn]

theorem panelWriterStep_completes (hr : s.run.panelWriter = .running) (hs : s.shutdown = false)
    (hw : s.pwState = .writing) (hg : s.pwGap = 0) (hn : s.pwRemaining = 0) :
    panelWriterStep s = .next (panelComplete s) := by
  simp [panelWriterStep, State.isRunning, PerAgent.get, hr, hs, hw, hg, hn]

/-- A `TX_ERROR` in place of the panel writer's `TX` (R284). -/
theorem txError_panel_of_due (hr : s.run.panelWriter = .running) (hs : s.shutdown = false) (hw : s.pwState = .writing)
    (hg : s.pwGap = 0) (hn : s.pwRemaining ≠ 0) : txError .panel s = s.raise .panelWriter .portWrite := by
  have hdue : s.txDue .panel = true := by
    simpa [State.txDue, State.panelTxDue, State.isRunning, PerAgent.get, hr, hs, hw, hg] using hn
  rcases txError_cases .panel s with ⟨hno, -⟩ | ⟨-, -, h⟩
  · cases hdue.symm.trans hno
  · exact h

end PanelWriter

/-- Settles O33: one clause for each of the writer's three steps, the failing transmission beside the one it replaces. -/
theorem panelWriterSteps : Obligations.PanelWriterSteps := by
  intro s hr hs
  refine ⟨fun m rest f hi hq he => ?_, fun hw hn hg => ⟨?_, ?_⟩, fun hw hn hg => ?_⟩
  · exact (panelWriterStep_of_queued hr hs hi hq).trans (panelStart_of_encoded rest he)
  · exact panelWriterStep_transmits hr hs hw hg hn
  · exact congrArg Host.Outcome.next (txError_panel_of_due hr hs hw hg hn)
  · exact panelWriterStep_completes hr hs hw hg hn

/-! ### The debouncer (R205, R206, R210) -/

section Debouncer
variable {s : State}

theorem debouncerStep_takes {m : P2D} {rest : List P2D} (hr : s.run.debouncer = .running) (hs : s.shutdown = false)
    (hq : s.panelQ = m :: rest) : debouncerStep s = debounceTake m rest s := by
  simp [debouncerStep, State.isRunning, PerAgent.get, hr, hs, hq]

theorem debouncerStep_expires (hr : s.run.debouncer = .running) (hs : s.shutdown = false) (hq : s.panelQ = [])
    (hp : s.run.panelReader = .running) (he : s.debounceExpired = true) : debouncerStep s = debounceExpire s := by
  simp [debouncerStep, State.isRunning, PerAgent.get, hr, hs, hq, hp, he]

end Debouncer

/-- Settles O34: a waiting message is looked for before the timer. -/
theorem debouncerTakesAndExpires : Obligations.DebouncerTakesAndExpires := fun s hr hs =>
  ⟨fun _ _ hq => congrArg Host.Outcome.next (debouncerStep_takes hr hs hq),
    fun hq hp ht => congrArg Host.Outcome.next (debouncerStep_expires hr hs hq hp ((debounceExpired_iff s).2 ht))⟩

/-! ### Silence (R206, R300) -/

theorem runEvents_ticks_append (n : Nat) (rest : List Event) (s : State) :
    runEvents (List.replicate n Event.tick ++ rest) s = runEvents rest (tick^[n] s) := by
  induction n generalizing s with
  | zero => rfl
  | succ n ih => exact ih (tick s)

/-- A register that no `TICK` writes is as it was after any number of them (R300). -/
theorem iterate_tick_kept {α : Type} {register : State → α} (h : register ∘ tick = register) (n : Nat) (s : State) :
    register (tick^[n] s) = register s :=
  congrFun (Function.iterate_invariant h n) s

/-- `n` `TICK`s add `n` to `deb_timer`, which saturates at 1000 (R300). -/
theorem iterate_tick_debTimer (n : Nat) {s : State} (h : s.debTimer.toNat ≤ 1000) :
    (tick^[n] s).debTimer.toNat = min (s.debTimer.toNat + n) 1000 := by
  induction n with
  | zero => simp [h]
  | succ n ih =>
    rw [Function.iterate_succ_apply', tick_debTimer, ih]
    split <;> omega

/-- Settles O36: `n` ticks leave the timer at `n`, or at 1000 when `n` is more, and the debouncer's turn then expires or, before
1000, only waits. -/
theorem silenceForcesNone : Obligations.SilenceForcesNone := by
  intro n s hr hp hs hq h0
  rw [runEvents_ticks_append, runEvents_singleton]
  have hrun : (tick^[n] s).run = s.run := iterate_tick_kept rfl n s
  have hshutdown : (tick^[n] s).shutdown = false := (iterate_tick_kept rfl n s).trans hs
  have hqueue : (tick^[n] s).panelQ = [] := (iterate_tick_kept rfl n s).trans hq
  have htimer : (tick^[n] s).debTimer.toNat = min n 1000 := by
    rw [iterate_tick_debTimer n (by simp [h0]), h0]
    simp
  rcases Nat.lt_or_ge n 1000 with hn | hn
  · have hwaits := (turnsActExactlyWhenEnabled.2 _ hshutdown).2.1 hqueue (hrun ▸ hp) (by omega)
    exact ⟨_, hwaits, fun hge => absurd hge (by omega),
      fun _ => ⟨iterate_tick_kept rfl n s, by omega, iterate_tick_kept rfl n s⟩⟩
  · have hexpires := (debouncerTakesAndExpires _ (hrun ▸ hr) hshutdown).2 hqueue (hrun ▸ hp) (by omega)
    exact ⟨_, hexpires, fun _ => ⟨rfl, rfl, rfl⟩, fun hlt => absurd hlt (by omega)⟩

end Sys2Proof.Machine
end

section
/-! Proofs of the statements of 43_control_loop.md: the window (R223) and `next_command` (R221 to R227), the control loop's
step in each of its states (R232 to R240), shutdown (R246, R247), `MOVE_TO_HEIGHT` (R250, R324), and that every change of
target or key notifies (R231). -/
namespace Sys2Proof.Machine

/-! ### The window (R223) -/

/-- The three relations of the window exclude each other, and one of them holds (R223). -/
theorem window_trichotomy (cur t : Mm) :
    (within cur t = true ∧ below cur t = false ∧ above cur t = false) ∨
    (within cur t = false ∧ below cur t = true ∧ above cur t = false) ∨
    (within cur t = false ∧ below cur t = false ∧ above cur t = true) := by
  simp only [Bool.eq_false_iff, Ne, within_iff, below_iff, above_iff]
  omega

/-- Settles O38: over the naturals the relations say the same as over the integers. -/
theorem windowRelations : Obligations.WindowRelations := by
  intro cur t
  refine ⟨?_, ?_, ?_, below_iff cur t, ?_, window_trichotomy cur t⟩
  · rw [within_iff]
    omega
  · rw [within_iff, abs_le]
    omega
  · rw [below_iff]
    omega
  · rw [above_iff]
    omega

/-! ### `next_command` (R221, R222, R224 to R227) -/

theorem pursue_of_within {t cur : Mm} (h : within cur t = true) :
    pursue t cur = { message := .noKey, repeatCount := 200, clearsTarget := true } := if_pos h

theorem pursue_of_below {t cur : Mm} (h : below cur t = true) :
    pursue t cur = { message := .up, repeatCount := 1, clearsTarget := false } := by
  have hw : ¬ within cur t = true := by
    rw [below_iff] at h
    rw [within_iff]
    omega
  rw [pursue, if_neg hw, if_pos h]

theorem pursue_of_above {t cur : Mm} (h : above cur t = true) :
    pursue t cur = { message := .down, repeatCount := 1, clearsTarget := false } := by
  rw [above_iff] at h
  have hw : ¬ within cur t = true := by
    rw [within_iff]
    omega
  have hb : ¬ below cur t = true := by
    rw [below_iff]
    omega
  rw [pursue, if_neg hw, if_neg hb]

/-- A key other than `NoKey` goes before any target (R221). -/
theorem nextCommand_of_manualKey {k : P2D} (hk : k ≠ .noKey) (target : Option Mm) (cur : Mm) :
    nextCommand (some k) target cur = some { message := k, repeatCount := 1, clearsTarget := false } := by
  cases k with
  | noKey => exact absurd rfl hk
  | _ => rfl

/-- With no key or `NoKey` held, a target is pursued (R224 to R226). -/
theorem nextCommand_of_target {key : Option P2D} (hkey : key = none ∨ key = some .noKey) (t cur : Mm) :
    nextCommand key (some t) cur = some (pursue t cur) := by
  rcases hkey with rfl | rfl <;> rfl

/-- Settles O37: a pursuit is decided by the one window relation that holds. -/
theorem nextCommandCases : Obligations.NextCommandCases := by
  refine ⟨fun k target cur hk => nextCommand_of_manualKey hk target cur, fun _ => rfl, fun _ => rfl,
    fun key t cur hkey => ?_⟩
  rw [nextCommand_of_target hkey]
  refine ⟨fun hlo hhi => congrArg some (pursue_of_within ?_), fun h => congrArg some (pursue_of_below ?_),
    fun h => congrArg some (pursue_of_above ?_)⟩
  · rw [within_iff]
    omega
  · rw [below_iff]
    omega
  · rw [above_iff]
    omega

/-! ### Shutdown (R246, R247) -/

/-- Shutdown comes first in every agent's turn. -/
theorem agentStep_of_shutdown {A : Agent} {s : State} (hs : s.shutdown = true) (hr : s.run.get A = .running) :
    agentStep A s = .next (s.halt A) := by
  have hr : s.isRunning A = true := (isRunning_iff A s).2 hr
  cases A with
  | deskReader | panelReader => simp [agentStep, readerStep, readerOf, hr, hs]
  | panelWriter => simp [agentStep, panelWriterStep, hr, hs]
  | debouncer => simp [agentStep, debouncerStep, hr, hs]
  | controlLoop => simp [agentStep, controlLoopStep, hr, hs]

/-- Settles O45. -/
theorem shutdownHaltsEveryAgent : Obligations.ShutdownHaltsEveryAgent :=
  ⟨fun _ => rfl, fun _ _ => agentStep_of_shutdown⟩

/-! ### The control loop's step (R232 to R235, R240, R284) -/

theorem isMovement_eq_decide (m : P2D) : isMovement m = decide (m = .up ∨ m = .down) :=
  Bool.eq_iff_iff.2 (by rw [isMovement_iff, decide_eq_true_iff])

theorem evaluate_of_none {s : State} (hn : nextCommand s.currentPanelKey s.targetHeight s.currentHeight = none) :
    evaluate s = .next { s with idleTimer := 0 } := by
  rw [evaluate, hn]

theorem evaluate_of_some {c : Command} {f : Frame} {s : State}
    (hc : nextCommand s.currentPanelKey s.targetHeight s.currentHeight = some c) (hf : encP2D c.message = some f) :
    evaluate s = .next (evaluated c f s) := by
  simp only [evaluate, hc, hf]
  rfl

section ControlLoop
variable {s : State}

/-- A notification or the idle timeout starts one evaluation, with the notification consumed (R232). -/
theorem controlLoopStep_evaluates (hr : s.run.controlLoop = .running) (hs : s.shutdown = false)
    (hw : s.clState = .waiting) (hdue : s.wake = true ∨ s.idleExpired = true) :
    controlLoopStep s = evaluate { s with wake := false } := by
  have hr : s.isRunning .controlLoop = true := (isRunning_iff .controlLoop s).2 hr
  cases hk : s.wake with
  | true => simp [controlLoopStep, hr, hs, hw, hk]
  | false =>
    have hi : s.idleExpired = true := hdue.resolve_left (by simp [hk])
    have hself : ({ s with wake := false } : State) = s := by rw [← hk]
    rw [hself]
    simp only [controlLoopStep, hr, hs, hw, hk, hi]
    rfl

theorem controlLoopStep_transmits (hr : s.run.controlLoop = .running) (hs : s.shutdown = false)
    (hw : s.clState = .writing) (hg : s.txGap = 0) (hn : s.txRemaining ≠ 0) :
    controlLoopStep s = .next (deskTransmit s) := by
  simp [controlLoopStep, (isRunning_iff .controlLoop s).2 hr, hs, hw, hg, show s.txRemaining ≠ 0#8 from hn]

theorem controlLoopStep_completes (hr : s.run.controlLoop = .running) (hs : s.shutdown = false)
    (hw : s.clState = .writing) (hg : s.txGap = 0) (hn : s.txRemaining = 0) :
    controlLoopStep s = .next (writeComplete s) := by
  simp [controlLoopStep, (isRunning_iff .controlLoop s).2 hr, hs, hw, hg, hn]

theorem deskTxDue_of_writing (hr : s.run.controlLoop = .running) (hs : s.shutdown = false)
    (hw : s.clState = .writing) (hg : s.txGap = 0) (hn : s.txRemaining ≠ 0) : s.deskTxDue = true := by
  simpa [State.deskTxDue, (isRunning_iff .controlLoop s).2 hr, hs, hw, hg] using hn

end ControlLoop

/-- Settles O39: shutdown, then the two answers of the one evaluation. -/
theorem controlLoopEvaluates : Obligations.ControlLoopEvaluates := by
  intro s hr hw
  refine ⟨fun hs => agentStep_of_shutdown (A := .controlLoop) hs hr, fun hs hdue => ?_⟩
  have hstep : act (.agentStep .controlLoop) s = evaluate { s with wake := false } :=
    controlLoopStep_evaluates hr hs hw (hdue.imp id (idleExpired_iff s).2)
  rw [hstep]
  refine ⟨fun hn => evaluate_of_none (s := { s with wake := false }) hn, fun c f hc hf => ?_⟩
  rw [← isMovement_eq_decide]
  exact evaluate_of_some (s := { s with wake := false }) hc hf

/-- Settles O40: the transmission, and the failing one that takes its place. -/
theorem controlLoopTransmits : Obligations.ControlLoopTransmits := by
  intro s hr hw hs hn hg
  exact ⟨controlLoopStep_transmits hr hs hw hg hn,
    congrArg Host.Outcome.next (if_pos (deskTxDue_of_writing hr hs hw hg hn))⟩

/-! ### Completion (R240) -/

theorem writeComplete_of_clears {s : State} (hc : s.txClears = true) :
    writeComplete s = { s with targetHeight := none, wake := true, clState := .waiting, idleTimer := 0 } := by
  simp [writeComplete, hc]

/-- A movement step with its target still pending signals again (R240). -/
theorem writeComplete_of_pursuit {s : State} (hc : s.txClears = false) (hm : s.txResignal = true)
    (ht : s.targetHeight ≠ none) :
    writeComplete s = { s with wake := true, clState := .waiting, idleTimer := 0 } := by
  simp [writeComplete, hc, hm, Option.isSome_iff_ne_none.2 ht]

theorem writeComplete_of_silent {s : State} (hc : s.txClears = false)
    (hm : s.txResignal = false ∨ s.targetHeight = none) :
    writeComplete s = { s with clState := .waiting, idleTimer := 0 } := by
  have hsignal : (s.txResignal && s.targetHeight.isSome) = false := by
    rcases hm with h | h <;> simp [h]
  simp [writeComplete, hc, hsignal]

/-- Settles O41: the completion in its three cases. -/
theorem controlLoopCompletes : Obligations.ControlLoopCompletes := by
  intro s hr hw hs hn hg
  have hstep : act (.agentStep .controlLoop) s = .next (writeComplete s) := controlLoopStep_completes hr hs hw hg hn
  rw [hstep]
  exact ⟨fun hc => congrArg _ (writeComplete_of_clears hc),
    fun hc hm ht => congrArg _ (writeComplete_of_pursuit hc hm ht),
    fun hc hm => congrArg _ (writeComplete_of_silent hc hm)⟩

/-! ### `MOVE_TO_HEIGHT` (R250, R324) -/

section MoveToHeight
variable {h : Nat}

theorem validateMove_outOfRange (hrange : h < 650 ∨ 1295 < h) : validateMove h = .outOfRange h 650 1295 :=
  if_pos ((outOfRange_iff h).2 hrange)

theorem not_outOfRange (hlo : 650 ≤ h) (hhi : h ≤ 1295) : ¬ outOfRange h = true := by
  rw [outOfRange_iff]
  omega

theorem validateMove_notMultiple (hlo : 650 ≤ h) (hhi : h ≤ 1295) (hm : h % 5 ≠ 0) :
    validateMove h = .notMultiple h 5 :=
  (if_neg (not_outOfRange hlo hhi)).trans (if_pos ((notMultiple_iff h).2 hm))

theorem validateMove_ok (hlo : 650 ≤ h) (hhi : h ≤ 1295) (hm : h % 5 = 0) : validateMove h = .ok :=
  (if_neg (not_outOfRange hlo hhi)).trans (if_neg (by rw [notMultiple_iff]; exact not_not_intro hm))

theorem moveToHeight_accepts (hlo : 650 ≤ h) (hhi : h ≤ 1295) (hm : h % 5 = 0) (s : State) :
    moveToHeight h s
      = State.emit (.moveResult .ok) { s with targetHeight := some (BitVec.ofNat 17 h), wake := true } := by
  rw [moveToHeight, validateMove_ok hlo hhi hm]

end MoveToHeight

/-- Settles O46: one clause for each answer of the two validations. -/
theorem moveToHeightValidates : Obligations.MoveToHeightValidates := by
  intro h s
  refine ⟨fun hrange => congrArg Host.Outcome.next ?_, fun hlo hhi hm => congrArg Host.Outcome.next ?_,
    fun hlo hhi hm t ht => congrArg Host.Outcome.next ?_⟩
  · rw [moveToHeight, validateMove_outOfRange hrange]
    rfl
  · rw [moveToHeight, validateMove_notMultiple hlo hhi hm]
    rfl
  · have hvalue : BitVec.ofNat 17 h = t := by rw [← ht, BitVec.ofNat_toNat, BitVec.setWidth_eq]
    rw [moveToHeight_accepts hlo hhi hm, hvalue]
    rfl

/-- Settles O44: the accepted move leaves the write and its `tx_clears` as they are, so the completion that is due clears
the new target. -/
theorem targetSetDuringBurstIsLost : Obligations.TargetSetDuringBurstIsLost := by
  intro h s hr hs hw hc hn hg hlo hhi hm
  refine ⟨_, _, congrArg Host.Outcome.next (moveToHeight_accepts hlo hhi hm s), rfl, rfl,
    controlLoopStep_completes hr hs hw hg hn, ?_⟩
  rw [writeComplete_targetHeight]
  exact if_pos hc

/-! ### Every change of target or key notifies (R231, R232) -/

/-- A completion that clears the target signals (R240). -/
theorem writeComplete_target_kept_or_wake (s : State) :
    (writeComplete s).targetHeight = s.targetHeight ∨ (writeComplete s).wake = true := by
  cases hc : s.txClears with
  | true => exact .inr (by rw [writeComplete_of_clears hc])
  | false => exact .inl (by simp [hc])

/-- A completion does not take a notification (R240). -/
theorem writeComplete_wake_kept_or_set (s : State) :
    (writeComplete s).wake = s.wake ∨ (writeComplete s).wake = true := by
  cases hk : s.wake with
  | true => exact .inr (by rw [writeComplete_wake, hk]; rfl)
  | false => exact (Bool.eq_false_or_eq_true _).symm

/-- An event keeps target and key, or leaves the notification set (R231). -/
theorem Did.target_key_kept_or_wake {e : Event} {s t : State} (hd : Did e s t) (he : e ≠ .reset) :
    (t.targetHeight = s.targetHeight ∧ t.currentPanelKey = s.currentPanelKey) ∨ t.wake = true := by
  cases hd with
  | reset => exact absurd rfl he
  | moveAccepted | taken | expired => exact .inr rfl
  | writeCompleted => exact (writeComplete_target_kept_or_wake s).imp (⟨·, rfl⟩) id
  | _ => exact .inl (by simp)

/-- An event sets the notification (R205, R206, R240, R250). -/
def SetsWake (e : Event) (s t : State) : Prop :=
  e = .agentStep .debouncer ∨ (∃ h : Nat, e = .moveToHeight h) ∨
    (e = .agentStep .controlLoop ∧ s.clState = .writing ∧ t.clState = .waiting)

/-- Everything an event can do to the notification: keep it, take it by an evaluation (R232), or set it. -/
theorem Did.wake_cases {e : Event} {s t : State} (hd : Did e s t) (he : e ≠ .reset) :
    t.wake = s.wake ∨
    (t.wake = false ∧ e = .agentStep .controlLoop ∧ s.clState = .waiting) ∨
    (t.wake = true ∧ SetsWake e s t) := by
  cases hd with
  | reset => exact absurd rfl he
  | evaluatedNone _ _ _ hw | evaluatedSome _ _ _ _ _ hw => exact .inr (.inl ⟨rfl, rfl, hw⟩)
  | taken | expired => exact .inr (.inr ⟨rfl, .inl rfl⟩)
  | moveAccepted h => exact .inr (.inr ⟨rfl, .inr (.inl ⟨h, rfl⟩)⟩)
  | writeCompleted _ _ _ hw =>
    exact (writeComplete_wake_kept_or_set s).imp id fun h => .inr ⟨h, .inr (.inr ⟨rfl, hw, rfl⟩)⟩
  | _ => exact .inl (by simp)

/-- Settles O50, from what an event can do to target, key and notification. -/
theorem everyChangeNotifies : Obligations.EveryChangeNotifies := by
  intro e s t he hact
  have hd := act_did hact
  refine ⟨fun hchange => ?_, fun hs ht => ?_, fun hs ht => ?_⟩
  · rcases hd.target_key_kept_or_wake he with ⟨htarget, hkey⟩ | hwake
    · exact absurd hkey (hchange.resolve_left (not_not_intro htarget))
    · exact hwake
  · rcases hd.wake_cases he with hkept | ⟨-, htaken⟩ | ⟨hset, -⟩
    · simp [hkept, hs] at ht
    · exact htaken
    · cases hset.symm.trans ht
  · rcases hd.wake_cases he with hkept | ⟨hclear, -⟩ | ⟨-, hsets⟩
    · simp [hkept, hs] at ht
    · cases hclear.symm.trans ht
    · exact hsets

end Sys2Proof.Machine
end

section
/-! Proofs of the statements of 60_exceptions.md: the read error and the events of a stopped reader (R283), the receive side
of ChannelError (R285, R292), and `TICK` (R300). -/
namespace Sys2Proof.Machine

/-! ### The events of a stopped reader (R170, R283) -/

section StoppedReader
variable {L : Link} {s : State}

theorem rxByte_of_stopped (b : Byte) (hr : s.run.get (readerOf L) ≠ .running) : rxByte L b s = .next s :=
  if_neg fun h => hr ((isRunning_iff _ s).1 h)

theorem rxTimeout_of_stopped (hr : s.run.get (readerOf L) ≠ .running) : rxTimeout L s = s := by
  rcases rxTimeout_cases L s with ⟨-, h⟩ | ⟨hy, -⟩
  · exact h
  · exact absurd hy hr

theorem rxError_of_stopped (hr : s.run.get (readerOf L) ≠ .running) : rxError L s = s := by
  rcases rxError_cases L s with ⟨-, h⟩ | ⟨hy, -⟩
  · exact h
  · exact absurd hy hr

theorem rxError_of_running (hr : s.run.get (readerOf L) = .running) : rxError L s = s.raise (readerOf L) .portRead := by
  rcases rxError_cases L s with ⟨hn, -⟩ | ⟨-, h⟩
  · exact absurd hr hn
  · exact h

end StoppedReader

/-- Settles O26: a Running reader takes the exception, and each of the three events passes a stopped one by. -/
theorem readErrorFaultsTheReader : Obligations.ReadErrorFaultsTheReader := fun _ _ =>
  ⟨fun hr => congrArg Host.Outcome.next (rxError_of_running hr),
    fun hr => ⟨congrArg Host.Outcome.next (rxError_of_stopped hr), congrArg Host.Outcome.next (rxTimeout_of_stopped hr),
      fun b => rxByte_of_stopped b hr⟩⟩

/-! ### The receive side of ChannelError (R285, R292) -/

theorem panelWriterStep_receiveFault {s : State} (hr : s.run.panelWriter = .running) (hs : s.shutdown = false)
    (hi : s.pwState = .idle) (hq : s.d2pQ = []) (hd : s.run.deskReader ≠ .running) :
    panelWriterStep s = .next (s.raise .panelWriter .channelReceive) := by
  simp [panelWriterStep, State.isRunning, PerAgent.get, hr, hs, hi, hq, hd]

theorem debouncerStep_receiveFault {s : State} (hr : s.run.debouncer = .running) (hs : s.shutdown = false)
    (hq : s.panelQ = []) (hp : s.run.panelReader ≠ .running) :
    debouncerStep s = s.raise .debouncer .channelReceive := by
  simp [debouncerStep, State.isRunning, PerAgent.get, hr, hs, hq, hp]

/-- Settles O35: the exception where nothing goes before it, and the halt of R246, which does. -/
theorem waitingOnAGoneProducerFaults : Obligations.WaitingOnAGoneProducerFaults := by
  refine fun s => ⟨fun hr hi hq hd => ⟨fun hs => ?_, fun hs => ?_⟩, fun hr hq hp => ⟨fun hs => ?_, fun hs => ?_⟩⟩
  · exact panelWriterStep_receiveFault hr hs hi hq hd
  · exact agentStep_of_shutdown (A := .panelWriter) hs hr
  · exact congrArg Host.Outcome.next (debouncerStep_receiveFault hr hs hq hp)
  · exact agentStep_of_shutdown (A := .debouncer) hs hr

/-! ### `TICK` (R300) -/

/-- Settles O48: the two saturating timers by what a `TICK` makes of each, the two gaps by subtraction that stops at 0. -/
theorem tickMovesTheTimers : Obligations.TickMovesTheTimers := by
  intro s
  have hdeb := tick_debTimer s
  have hidle := tick_idleTimer s
  refine ⟨(tick s).debTimer, (tick s).idleTimer, (tick s).txGap, (tick s).pwGap, rfl,
    fun hlt => hdeb.trans (if_pos hlt), fun hge => BitVec.eq_of_toNat_eq (hdeb.trans (if_neg (by omega))),
    fun hlt => hidle.trans (if_pos hlt), fun hge => BitVec.eq_of_toNat_eq (hidle.trans (if_neg (by omega))), ?_⟩
  rw [tick_txGap, tick_pwGap]
  omega

end Sys2Proof.Machine
end

section
/-! Proofs of the statements of 70_reset_and_hazards.md: the block transmits nothing of its own accord (R314). -/
namespace Sys2Proof.Machine

/-! ### A quiet block transmits nothing and stays quiet (R314) -/

/-- `RESET` brings the block to rest from any state (R47, R310). -/
theorem resetBlock_quiet (s : State) : s.resetBlock.Quiet := ⟨rfl, rfl, rfl, rfl, rfl, rfl⟩

/-- With neither key nor target there is nothing to command (R227). -/
theorem State.Quiet.nextCommand_eq_none {s : State} (h : s.Quiet) :
    nextCommand s.currentPanelKey s.targetHeight s.currentHeight = none := by
  rw [h.noKey, h.noTarget]
  rfl

/-- Only a write under way transmits: the panel writer's (R202) or the control loop's (R235). -/
theorem Did.sent_kept_of_noWrite {e : Event} {s t : State} (hd : Did e s t) (hcl : s.clState = .waiting)
    (hpw : s.pwState = .idle) (L : Link) : t.sent L = s.sent L := by
  rcases hd.sent_kept_or L with hkept | ⟨-, rfl⟩ | ⟨-, rfl, -⟩
  · exact hkept
  · cases hd with
    | panelTransmitted _ _ _ hw => cases hpw.symm.trans hw
    | hostRead _ _ _ he => simp at he
    | _ => exact sent_of_outputs_eq L rfl
  · cases hd with
    | deskTransmitted _ _ _ hw => cases hcl.symm.trans hw
    | hostRead _ _ _ he => simp at he
    | _ => exact sent_of_outputs_eq L rfl

/-- The rules that end quiet need a byte, a target, a queued message, a key or target to command, or a write under way; an
expiry only clears the key that is not held (R206). -/
theorem Did.quiet {e : Event} {s t : State} (hd : Did e s t) (h : s.Quiet) (he : bringsNothing e = true) : t.Quiet := by
  cases hd with
  | reset => exact resetBlock_quiet s
  | acceptStart | discardOne | fill | discardSeven | relayed | relayFault | queued | queueFault => cases he
  | moveAccepted | moveRejected => cases he
  | panelStarted _ _ _ _ _ _ _ hq => cases h.d2pQEmpty.symm.trans hq
  | taken _ _ _ _ _ hq => cases h.panelQEmpty.symm.trans hq
  | evaluatedSome _ _ _ _ _ _ hc => cases h.nextCommand_eq_none.symm.trans hc
  | panelTransmitted _ _ _ hw | panelCompleted _ _ _ hw => cases h.panelWriterIdle.symm.trans hw
  | deskTransmitted _ _ _ hw | writeCompleted _ _ _ hw => cases h.controlLoopWaits.symm.trans hw
  | expired => exact { h with noKey := rfl }
  | _ =>
    exact ⟨by simpa using h.noTarget, by simpa using h.noKey, by simpa using h.panelQEmpty, by simpa using h.d2pQEmpty,
      by simpa using h.controlLoopWaits, by simpa using h.panelWriterIdle⟩

/-- A quiet block stays quiet along a run that brings nothing, so no event of it transmits. -/
theorem State.Quiet.sent_runEvents {events : List Event} {s t : State} (h : s.Quiet)
    (he : events.all bringsNothing = true) (hrun : runEvents events s = .next t) (L : Link) : t.sent L = s.sent L := by
  induction events generalizing s with
  | nil =>
    cases hrun
    rfl
  | cons e rest ih =>
    rw [List.all_cons, Bool.and_eq_true] at he
    obtain ⟨hfirst, hlater⟩ := he
    obtain ⟨u, hact, hrest⟩ := runEvents_cons_next hrun
    have hd := act_did hact
    calc t.sent L = u.sent L := ih (hd.quiet h hfirst) hlater hrest
      _ = s.sent L := hd.sent_kept_of_noWrite h.controlLoopWaits h.panelWriterIdle L

/-- Settles O59: every rule keeps a quiet block quiet, and a quiet block has no write under way; a run from reset adds
nothing to the empty list of what had been sent. -/
theorem nothingIsSentSpontaneously : Obligations.NothingIsSentSpontaneously := by
  have hreset : State.reset.Quiet := resetBlock_quiet State.reset
  refine ⟨hreset, fun e s t h he hact => ?_, fun events t he hrun => ?_⟩
  · have hsent := (act_did hact).sent_kept_of_noWrite h.controlLoopWaits h.panelWriterIdle
    exact ⟨(act_did hact).quiet h he, hsent .desk, hsent .panel⟩
  · exact ⟨hreset.sent_runEvents he hrun .desk, hreset.sent_runEvents he hrun .panel⟩

end Sys2Proof.Machine
end
